-- ==== Sys2Proof/Word.lean ====
section
/-! DEFINITION. The element types of the machine: bytes, words, framebuffer indexes, pixels, CLUT entries,
palette triples, ASCII lines (spec/00_scope.md R12, spec/20_memory.md R60). -/

namespace Sys2Proof

/-- A byte: an ARG field, a palette index, a received byte, a key code, a colour channel. -/
abbrev Byte := BitVec 8

/-- The 16-bit operation word of R90. -/
abbrev Word16 := BitVec 16

/-- A 32-bit word: `now`, the timestamps, the response word. -/
abbrev Word32 := BitVec 32

/-- The index of a framebuffer, 0 or 1 (R22). The draw buffer flips by `1 - k`, which is arithmetic in `Fin 2`. -/
abbrev FbIndex := Fin 2

/-- A pixel, as the unsigned number its BPP bytes spell. Rules treat elements as opaque values (R68). -/
abbrev Pixel := Nat

/-- A CLUT entry: a value in the range of CLUT_PACK (R10), as an unsigned number. -/
abbrev ClutEntry := Nat

/-- An ASCII line of the diagnostic serial channel (R48), one byte a character. -/
abbrev Line := List Byte

/-- One element of PAL_IN: an RGB triple, 8 bits a channel (R64). -/
structure Rgb where
  r : Byte
  g : Byte
  b : Byte
deriving DecidableEq, Repr

end Sys2Proof
end

