-- ==== Sys2Proof/Syntax.lean ====
section
/-! DEFINITION. The 31 operations of spec/30_encoding.md R94, one constructor a row of spec/opcode_table.json in its
order, with the operand that R92 gives each, and the five agents of spec/00_scope.md R7. -/

namespace Sys2Proof

/-- An operation: a command of FG or an event of another agent (R90). A one-bit ARG (R92) is a Bool, or an index where
it names a framebuffer. -/
inductive Instr where
  /-- ENV.CLK n (R210) -/
  | envClk (n : Byte)
  /-- ENV.ETICK (R211) -/
  | envEtick
  /-- ENV.SRCFILL v (R212) -/
  | envSrcfill (v : Byte)
  /-- ENV.RESET (R213) -/
  | envReset
  /-- FSC.BEGIN (R111) -/
  | fscBegin
  /-- FSC.SUBMIT (R112) -/
  | fscSubmit
  /-- FSC.WAIT (R113) -/
  | fscWait
  /-- FSC.REFRESH (R114) -/
  | fscRefresh
  /-- FSC.SETMODE m (R115) -/
  | fscSetmode (m : Bool)
  /-- FSC.IRQCTL e (R116) -/
  | fscIrqctl (e : Bool)
  /-- FSC.FORCEVIS k (R117) -/
  | fscForcevis (k : FbIndex)
  /-- FSC.RDCNT (R118) -/
  | fscRdcnt
  /-- FSC.RDSTAT (R119) -/
  | fscRdstat
  /-- BSE.SCALE (R142) -/
  | bseScale
  /-- BSE.FLUSH (R143) -/
  | bseFlush
  /-- BSE.START (R144) -/
  | bseStart
  /-- BSE.WAIT (R146) -/
  | bseWait
  /-- BSE.DONE (R145) -/
  | bseDone
  /-- BSE.PALBUILD (R151) -/
  | bsePalbuild
  /-- BSE.PALFLUSH (R152) -/
  | bsePalflush
  /-- BSE.PALLOAD (R153) -/
  | bsePalload
  /-- BSE.PALWAIT (R156) -/
  | bsePalwait
  /-- BSE.PALDONE (R154) -/
  | bsePaldone
  /-- BSE.PALERR (R155) -/
  | bsePalerr
  /-- KDB.RX b (R183) -/
  | kdbRx (b : Byte)
  /-- KDB.POLL (R184) -/
  | kdbPoll
  /-- SYS.CHECK (R201) -/
  | sysCheck
  /-- SYS.FATAL c (R204) -/
  | sysFatal (c : Byte)
  /-- SYS.FLOOP (R205) -/
  | sysFloop
  /-- SYS.TELEM (R206) -/
  | sysTelem
  /-- SYS.INITFAIL (R209) -/
  | sysInitfail
deriving DecidableEq, Repr

/-- The agents of R7. -/
inductive Agent where
  | fg
  | scan
  | dma
  | rx
  | env
deriving DecidableEq, Repr

end Sys2Proof
end

