-- ==== Sys2Proof/WellFormed.lean ====
section
/-! DEFINITION. Which operations have a word: the operand ranges of spec/30_encoding.md R92 that the types of
Syntax.lean do not already hold. -/

namespace Sys2Proof

/-- R92, R95: SYS.FATAL takes a cause 1 to 255; "SYS.FATAL with c = 0 (0x4100)" is illegal. Every other operand range
of R92 is the range of its type. -/
def Instr.wf : Instr → Bool
  | .sysFatal c => c != 0
  | .envClk _ | .envEtick | .envSrcfill _ | .envReset
  | .fscBegin | .fscSubmit | .fscWait | .fscRefresh | .fscSetmode _ | .fscIrqctl _ | .fscForcevis _
  | .fscRdcnt | .fscRdstat
  | .bseScale | .bseFlush | .bseStart | .bseWait | .bseDone | .bsePalbuild | .bsePalflush | .bsePalload
  | .bsePalwait | .bsePaldone | .bsePalerr
  | .kdbRx _ | .kdbPoll
  | .sysCheck | .sysFloop | .sysTelem | .sysInitfail => true

end Sys2Proof
end

