-- ==== Sys2Proof/Decode.lean ====
section
/-! DEFINITION. The operation word of spec/30_encoding.md: the decoder, total on every 16-bit word, and after it the
encoder, the opcode map as rows of match and mask, the agent of each operation, the listing syntax and the macros. -/

namespace Sys2Proof

/-- Why a word is illegal: the cases of R95. -/
inductive Illegal where
  /-- UNIT 5 to 15. -/
  | reservedUnit
  /-- An OP that R94 does not list for its unit. -/
  | unassignedOp
  /-- A non-zero ARG where the mask is 0xFFFF. -/
  | argNotZero
  /-- ARG[7:1] non-zero where the mask is 0xFFFE. -/
  | argHighBits
  /-- SYS.FATAL with c = 0. -/
  | causeZero
deriving DecidableEq, Repr

/-- UNIT, bits 15:12 (R90). -/
def unitField (w : Word16) : Nat := (w.extractLsb' 12 4).toNat

/-- OP, bits 11:8 (R90). -/
def opField (w : Word16) : Nat := (w.extractLsb' 8 4).toNat

/-- ARG, bits 7:0 (R90). -/
def argField (w : Word16) : Byte := w.extractLsb' 0 8

/-- An operation without an argument: ARG "must be 0" (R90). -/
def decodeNoArg (i : Instr) (arg : Byte) : Except Illegal Instr :=
  if arg = 0 then .ok i else .error .argNotZero

/-- An operation whose argument is ARG[0], with ARG[7:1] = 0 (R92). -/
def decodeBitArg (f : Bool → Instr) (arg : Byte) : Except Illegal Instr :=
  if arg = 0 then .ok (f false) else if arg = 1 then .ok (f true) else .error .argHighBits

/-- The framebuffer index that ARG[0] spells. -/
def fbIndexOfBit (b : Bool) : FbIndex := if b then 1 else 0

/-- UNIT 0 (R94). -/
def decodeEnv (op : Nat) (arg : Byte) : Except Illegal Instr :=
  match op with
  | 1 => .ok (.envClk arg)
  | 2 => decodeNoArg .envEtick arg
  | 3 => .ok (.envSrcfill arg)
  | 4 => decodeNoArg .envReset arg
  | _ => .error .unassignedOp

/-- UNIT 1 (R94). -/
def decodeFsc (op : Nat) (arg : Byte) : Except Illegal Instr :=
  match op with
  | 0 => decodeNoArg .fscBegin arg
  | 1 => decodeNoArg .fscSubmit arg
  | 2 => decodeNoArg .fscWait arg
  | 3 => decodeNoArg .fscRefresh arg
  | 4 => decodeBitArg .fscSetmode arg
  | 5 => decodeBitArg .fscIrqctl arg
  | 6 => decodeBitArg (fun b => .fscForcevis (fbIndexOfBit b)) arg
  | 7 => decodeNoArg .fscRdcnt arg
  | 8 => decodeNoArg .fscRdstat arg
  | _ => .error .unassignedOp

/-- UNIT 2 (R94). -/
def decodeBse (op : Nat) (arg : Byte) : Except Illegal Instr :=
  match op with
  | 0 => decodeNoArg .bseScale arg
  | 1 => decodeNoArg .bseFlush arg
  | 2 => decodeNoArg .bseStart arg
  | 3 => decodeNoArg .bseWait arg
  | 4 => decodeNoArg .bseDone arg
  | 5 => decodeNoArg .bsePalbuild arg
  | 6 => decodeNoArg .bsePalflush arg
  | 7 => decodeNoArg .bsePalload arg
  | 8 => decodeNoArg .bsePalwait arg
  | 9 => decodeNoArg .bsePaldone arg
  | 10 => decodeNoArg .bsePalerr arg
  | _ => .error .unassignedOp

/-- UNIT 3 (R94). -/
def decodeKdb (op : Nat) (arg : Byte) : Except Illegal Instr :=
  match op with
  | 0 => .ok (.kdbRx arg)
  | 1 => decodeNoArg .kdbPoll arg
  | _ => .error .unassignedOp

/-- UNIT 4 (R94); the cause 0 is illegal (R95). -/
def decodeSys (op : Nat) (arg : Byte) : Except Illegal Instr :=
  match op with
  | 0 => decodeNoArg .sysCheck arg
  | 1 => if arg = 0 then .error .causeZero else .ok (.sysFatal arg)
  | 2 => decodeNoArg .sysFloop arg
  | 3 => decodeNoArg .sysTelem arg
  | 4 => decodeNoArg .sysInitfail arg
  | _ => .error .unassignedOp

/-- The decoder: "A decoder is total: it returns `illegal` for such a word" (R95). -/
def decode (w : Word16) : Except Illegal Instr :=
  match unitField w with
  | 0 => decodeEnv (opField w) (argField w)
  | 1 => decodeFsc (opField w) (argField w)
  | 2 => decodeBse (opField w) (argField w)
  | 3 => decodeKdb (opField w) (argField w)
  | 4 => decodeSys (opField w) (argField w)
  | _ => .error .reservedUnit

/-- The instruction the decoder reads from an instruction of the opcode table whose bits are `w`, of which the table
gives the low `nbits`. Every operation is one 16-bit word (R97), so a higher bit that is set spells nothing. -/
def decodeTableWord (nbits w : Nat) : Option Instr :=
  if w % 2 ^ nbits < 2 ^ 16 then (decode (BitVec.ofNat 16 (w % 2 ^ nbits))).toOption else none

/-! The encoder. -/

/-- `W = {UNIT, OP, ARG}` (R90). -/
def opWord (unit op : BitVec 4) (arg : Byte) : Word16 := unit ++ op ++ arg

/-- ARG[0] = b, ARG[7:1] = 0 (R92). -/
def bitArg (b : Bool) : Byte := if b then 1 else 0

/-- The word of an operation (R94). -/
def encode : Instr → Word16
  | .envClk n => opWord 0 1 n
  | .envEtick => opWord 0 2 0
  | .envSrcfill v => opWord 0 3 v
  | .envReset => opWord 0 4 0
  | .fscBegin => opWord 1 0 0
  | .fscSubmit => opWord 1 1 0
  | .fscWait => opWord 1 2 0
  | .fscRefresh => opWord 1 3 0
  | .fscSetmode m => opWord 1 4 (bitArg m)
  | .fscIrqctl e => opWord 1 5 (bitArg e)
  | .fscForcevis k => opWord 1 6 (bitArg (k == 1))
  | .fscRdcnt => opWord 1 7 0
  | .fscRdstat => opWord 1 8 0
  | .bseScale => opWord 2 0 0
  | .bseFlush => opWord 2 1 0
  | .bseStart => opWord 2 2 0
  | .bseWait => opWord 2 3 0
  | .bseDone => opWord 2 4 0
  | .bsePalbuild => opWord 2 5 0
  | .bsePalflush => opWord 2 6 0
  | .bsePalload => opWord 2 7 0
  | .bsePalwait => opWord 2 8 0
  | .bsePaldone => opWord 2 9 0
  | .bsePalerr => opWord 2 10 0
  | .kdbRx b => opWord 3 0 b
  | .kdbPoll => opWord 3 1 0
  | .sysCheck => opWord 4 0 0
  | .sysFatal c => opWord 4 1 c
  | .sysFloop => opWord 4 2 0
  | .sysTelem => opWord 4 3 0
  | .sysInitfail => opWord 4 4 0

/-- The mnemonic of R94 and of spec/opcode_table.json. -/
def Instr.mnemonic : Instr → String
  | .envClk _ => "ENV.CLK"
  | .envEtick => "ENV.ETICK"
  | .envSrcfill _ => "ENV.SRCFILL"
  | .envReset => "ENV.RESET"
  | .fscBegin => "FSC.BEGIN"
  | .fscSubmit => "FSC.SUBMIT"
  | .fscWait => "FSC.WAIT"
  | .fscRefresh => "FSC.REFRESH"
  | .fscSetmode _ => "FSC.SETMODE"
  | .fscIrqctl _ => "FSC.IRQCTL"
  | .fscForcevis _ => "FSC.FORCEVIS"
  | .fscRdcnt => "FSC.RDCNT"
  | .fscRdstat => "FSC.RDSTAT"
  | .bseScale => "BSE.SCALE"
  | .bseFlush => "BSE.FLUSH"
  | .bseStart => "BSE.START"
  | .bseWait => "BSE.WAIT"
  | .bseDone => "BSE.DONE"
  | .bsePalbuild => "BSE.PALBUILD"
  | .bsePalflush => "BSE.PALFLUSH"
  | .bsePalload => "BSE.PALLOAD"
  | .bsePalwait => "BSE.PALWAIT"
  | .bsePaldone => "BSE.PALDONE"
  | .bsePalerr => "BSE.PALERR"
  | .kdbRx _ => "KDB.RX"
  | .kdbPoll => "KDB.POLL"
  | .sysCheck => "SYS.CHECK"
  | .sysFatal _ => "SYS.FATAL"
  | .sysFloop => "SYS.FLOOP"
  | .sysTelem => "SYS.TELEM"
  | .sysInitfail => "SYS.INITFAIL"

/-- A row of the map of R94. -/
structure OpcodeRow where
  mnemonic : String
  pattern : Word16
  mask : Word16
deriving DecidableEq, Repr

/-- "A word `W` spells the operation of a row exactly when `W and mask = match`" (R94). -/
def OpcodeRow.matches (r : OpcodeRow) (w : Word16) : Bool := w &&& r.mask == r.pattern

/-- The complete map of R94, row by row. SYS.FATAL's constraint `ARG != 0` is R95's and stands beside it. -/
def opcodeMap : List OpcodeRow := [
  ⟨"ENV.CLK", 0x0100, 0xFF00⟩, ⟨"ENV.ETICK", 0x0200, 0xFFFF⟩, ⟨"ENV.SRCFILL", 0x0300, 0xFF00⟩,
  ⟨"ENV.RESET", 0x0400, 0xFFFF⟩,
  ⟨"FSC.BEGIN", 0x1000, 0xFFFF⟩, ⟨"FSC.SUBMIT", 0x1100, 0xFFFF⟩, ⟨"FSC.WAIT", 0x1200, 0xFFFF⟩,
  ⟨"FSC.REFRESH", 0x1300, 0xFFFF⟩, ⟨"FSC.SETMODE", 0x1400, 0xFFFE⟩, ⟨"FSC.IRQCTL", 0x1500, 0xFFFE⟩,
  ⟨"FSC.FORCEVIS", 0x1600, 0xFFFE⟩, ⟨"FSC.RDCNT", 0x1700, 0xFFFF⟩, ⟨"FSC.RDSTAT", 0x1800, 0xFFFF⟩] ++ [
  ⟨"BSE.SCALE", 0x2000, 0xFFFF⟩, ⟨"BSE.FLUSH", 0x2100, 0xFFFF⟩, ⟨"BSE.START", 0x2200, 0xFFFF⟩,
  ⟨"BSE.WAIT", 0x2300, 0xFFFF⟩, ⟨"BSE.DONE", 0x2400, 0xFFFF⟩, ⟨"BSE.PALBUILD", 0x2500, 0xFFFF⟩,
  ⟨"BSE.PALFLUSH", 0x2600, 0xFFFF⟩, ⟨"BSE.PALLOAD", 0x2700, 0xFFFF⟩, ⟨"BSE.PALWAIT", 0x2800, 0xFFFF⟩,
  ⟨"BSE.PALDONE", 0x2900, 0xFFFF⟩, ⟨"BSE.PALERR", 0x2A00, 0xFFFF⟩] ++ [
  ⟨"KDB.RX", 0x3000, 0xFF00⟩, ⟨"KDB.POLL", 0x3100, 0xFFFF⟩,
  ⟨"SYS.CHECK", 0x4000, 0xFFFF⟩, ⟨"SYS.FATAL", 0x4100, 0xFF00⟩, ⟨"SYS.FLOOP", 0x4200, 0xFFFF⟩,
  ⟨"SYS.TELEM", 0x4300, 0xFFFF⟩, ⟨"SYS.INITFAIL", 0x4400, 0xFFFF⟩]

/-- The agent that takes an operation: "fixed by the operation, not encoded in the word" (R91, R7). -/
def Instr.agent : Instr → Agent
  | .envClk _ | .envEtick | .envSrcfill _ | .envReset => .env
  | .fscRefresh => .scan
  | .bseDone | .bsePaldone | .bsePalerr => .dma
  | .kdbRx _ => .rx
  | .fscBegin | .fscSubmit | .fscWait | .fscSetmode _ | .fscIrqctl _ | .fscForcevis _ | .fscRdcnt | .fscRdstat
  | .bseScale | .bseFlush | .bseStart | .bseWait | .bsePalbuild | .bsePalflush | .bsePalload | .bsePalwait
  | .kdbPoll | .sysCheck | .sysFatal _ | .sysFloop | .sysTelem | .sysInitfail => .fg

/-- The argument as a listing writes it (R98), a decimal number, if the operation has one. -/
def Instr.listingArg : Instr → Option Nat
  | .envClk n | .envSrcfill n | .kdbRx n | .sysFatal n => some n.toNat
  | .fscSetmode b | .fscIrqctl b => some (bitArg b).toNat
  | .fscForcevis k => some k.val
  | .envEtick | .envReset | .fscBegin | .fscSubmit | .fscWait | .fscRefresh | .fscRdcnt | .fscRdstat
  | .bseScale | .bseFlush | .bseStart | .bseWait | .bseDone | .bsePalbuild | .bsePalflush | .bsePalload
  | .bsePalwait | .bsePaldone | .bsePalerr | .kdbPoll | .sysCheck | .sysFloop | .sysTelem | .sysInitfail => none

/-- One line of a listing (R98): `UNIT.NAME` followed by its argument, if any. -/
def Instr.listing (i : Instr) : String :=
  match i.listingArg with
  | some n => i.mnemonic ++ " " ++ toString n
  | none => i.mnemonic

/-- The macros of R100 that expand to one fixed sequence of words. LOOP.ITER has the renderer's drawing in it, and
SYS.DIE goes on for ever: `loopIter` takes the drawing and the ending, `sysDie` the number of iterations. -/
inductive Macro where
  /-- BSE.CONVERT -/
  | bseConvert
  /-- BSE.SETPAL -/
  | bseSetpal
  /-- FRAME.DONE -/
  | frameDone
  /-- FRAME.DIRECT -/
  | frameDirect
  /-- LOOP.ITER, with ENV.SRCFILL `v` as the renderer's drawing, where it draws through it, and FRAME.DONE if `blit`,
  else FRAME.DIRECT. -/
  | loopIter (v : Option Byte) (blit : Bool)
  /-- The first `n` iterations of SYS.DIE c. -/
  | sysDie (c : Byte) (n : Nat)
deriving DecidableEq, Repr

/-- BSE.CONVERT (R100). -/
def convertOps : List Instr := [.bseScale, .bseFlush, .bseStart, .bseWait, .fscSubmit]

/-- BSE.SETPAL (R100). -/
def setpalOps : List Instr := [.bsePalbuild, .bsePalflush, .bsePalload, .bsePalwait]

/-- The expansions of R100. -/
def Macro.expand : Macro → List Instr
  | .bseConvert => convertOps
  | .bseSetpal => setpalOps
  | .frameDone => convertOps ++ [.fscWait]
  | .frameDirect => [.fscSubmit, .fscWait]
  | .loopIter v blit =>
    [.fscBegin] ++ (match v with | some b => [.envSrcfill b] | none => [])
      ++ (if blit then convertOps ++ [.fscWait] else [.fscSubmit, .fscWait]) ++ [.sysCheck]
  | .sysDie c n => .sysFatal c :: List.replicate n .sysFloop

end Sys2Proof
end

