-- ==== Sys2Proof/Config.lean ====
section
/-! DEFINITION. The implementation parameters of spec/00_scope.md R10 as a plain record, the test configuration T1 of
spec/95_test_vectors.md, and the constants without body that stand for what the spec leaves open. -/

namespace Sys2Proof

/-- WAIT_MODE (R10): no rule depends on it. -/
inductive WaitMode where
  | irq
  | poll
deriving DecidableEq, Repr

/-- BYTE_ORDER (R68): only a byte-level view of an element reads it. -/
inductive ByteOrder where
  | little
  | big
deriving DecidableEq, Repr

/-- IRQ_PRIO (R10, R236): a total preorder on the three interrupt sources, written as three levels. No rule depends
on it: both orders of simultaneous events are traces. -/
structure IrqPrio where
  refresh  : Nat
  blitDone : Nat
  rx       : Nat
deriving DecidableEq, Repr

/-- CLUT_PACK (R10), named as plain data: the test configuration's packing (R147), or any other function, number `n` of
the family `Config.clutPack`, about which nothing is known. -/
inductive ClutPackFn where
  | argb8888
  | other (n : Nat)
deriving DecidableEq, Repr

/-- PIXFMT (R10, R147), named as plain data: the identity, or number `n` of the family `Config.pixFmt`. -/
inductive PixFmtFn where
  | identity
  | other (n : Nat)
deriving DecidableEq, Repr

/-- The parameters of R10, in its order: "a configuration/capability struct injected at startup". No step changes
them. `Board.wf` (Machine/Params.lean) states R10's constraints. -/
structure Board where
  panelW : Nat
  panelH : Nat
  bpp : Nat
  /-- AW, the width of a physical address. -/
  aw : Nat
  fbAddr0 : Nat
  fbAddr1 : Nat
  srcW : Nat
  srcH : Nat
  /-- SCALE is the exact rational `scaleNum / scaleDen` (D16). -/
  scaleNum : Nat
  scaleDen : Nat
  /-- U7: true where the chip's float division `x / SCALE` is exact at every coordinate. -/
  exactDivision : Bool
  nScratch : Nat
  /-- CNT_W, the width of the two heartbeat counters. -/
  cntW : Nat
  holdWindowMs : Nat
  progressTimeoutMs : Nat
  refreshTimeoutMs : Nat
  blitTimeoutMs : Nat
  clutTimeoutMs : Nat
  ringCap : Nat
  /-- KEYMAP: the mapped bytes with their key codes; a byte that is not listed maps to none. -/
  keymap : List (Byte × Byte)
  /-- GAMMA: the table, indexed by the channel value. -/
  gamma : Vector Byte 256
  clutPack : ClutPackFn
  pixFmt : PixFmtFn
  waitMode : WaitMode
  irqPrio : IrqPrio
  fatalFb : FbIndex
  fatalCadenceMs : Nat
  telemPeriodMs : Nat
  byteOrder : ByteOrder
  resetDrawIndex : FbIndex
deriving DecidableEq, Repr

/-- The test configuration T1 of spec/95_test_vectors.md section 2. It gives no value for WAIT_MODE, IRQ_PRIO and
FATAL_CADENCE_MS, on which no rule depends: those three are this model's (DESIGN CHOICE, log 1). -/
def Board.t1 : Board where
  panelW := 6
  panelH := 4
  bpp := 4
  aw := 32
  fbAddr0 := 0xC0000000
  fbAddr1 := 0xC0100000
  srcW := 2
  srcH := 2
  scaleNum := 2
  scaleDen := 1
  exactDivision := true
  nScratch := 1
  cntW := 32
  holdWindowMs := 100
  progressTimeoutMs := 5000
  refreshTimeoutMs := 10000
  blitTimeoutMs := 50
  clutTimeoutMs := 100
  ringCap := 4
  keymap := [(0x77, 0x01), (0x57, 0x01), (0x61, 0x02), (0x41, 0x02), (0x31, 0x10)]
  gamma := Vector.ofFn fun i => BitVec.ofNat 8 i.val
  clutPack := .argb8888
  pixFmt := .identity
  waitMode := .irq
  irqPrio := ⟨0, 0, 0⟩
  fatalFb := 0
  fatalCadenceMs := 1000
  telemPeriodMs := 1000
  byteOrder := .little
  resetDrawIndex := 1

namespace Config

/-! Free values: `any` of R13, "a value drawn freely by the model on every evaluation, under no law". Each constant has
no body, so no proof can see a value of it. The first argument is the number of the draw (`State.draws` when it is
made; for `anyShown` the number of the look), the second tells apart the draws of one step or look. -/

/-- A free byte: an unwritten element of SRC, SCRATCH or PAL_IN, an unwritten ring slot (U5, U8). -/
opaque anyByte : Nat → Nat → Byte

/-- A free pixel of a tainted or unpaletted transfer, before it is cut to BPP bytes (R145, U5). -/
opaque anyPixel : Nat → Nat → Nat

/-- A free pixel of the scan-out, before it is cut to BPP bytes: an unwritten framebuffer element, or one in the
destination region of a transfer in flight (R81, R272, U6, U8). Its first argument is the number of the look
(`State.scanOut`, log 3), not of a draw of the machine. -/
opaque anyShown : Nat → Nat → Nat

/-- A free CLUT entry: a tainted or failed load, an unwritten element of CLUT_MEM, CLUT_HW at reset (R154, R155, U8). -/
opaque anyEntry : Nat → Nat → ClutEntry

/-- A free number of a telemetry line (R206, U14). -/
opaque anyNumber : Nat → Nat → Nat

/-- A free response word, where a value does not fit the 32 bits of RSP (log 7). -/
opaque anyResponse : Nat → Word32

/-- A free choice among the floor and its two neighbours (U7): 0 below, 1 the floor, 2 above. -/
opaque anyNeighbour : Nat → Nat → Fin 3

/-! Open functions of R10, the same for every evaluation. -/

/-- MSG: the message text of each fatal cause (D34). -/
opaque msg : Byte → Line

/-- RENDER_MSG: the pixel, at each element of a framebuffer, that the fatal reporter draws for a cause (D35). -/
opaque renderMsg : Byte → Nat → Nat

/-- The family of packings behind `ClutPackFn.other` (D19). -/
opaque clutPack : Nat → Byte → Byte → Byte → ClutEntry

/-- The family of pixel formats behind `PixFmtFn.other` (D19). -/
opaque pixFmt : Nat → ClutEntry → Nat

end Config

end Sys2Proof
end

