-- ==== Sys2Proof/Machine/Params.lean ====
section
/-! DEFINITION. What the parameters of spec/00_scope.md R10 determine: the derived constants, the scale function, the
open functions as functions, and the constraints of R10 as one check. -/

namespace Sys2Proof

/-- FB_ADDR[k] (R10). -/
def Board.fbAddr (b : Board) (k : FbIndex) : Nat := if k = 0 then b.fbAddr0 else b.fbAddr1

/-- The number of elements of a framebuffer (R60). -/
def Board.fbSize (b : Board) : Nat := b.panelW * b.panelH

/-- The number of elements of SRC (R60). -/
def Board.srcSize (b : Board) : Nat := b.srcW * b.srcH

/-- OUT_W = floor(SRC_W x SCALE) (R141). -/
def Board.outW (b : Board) : Nat := b.srcW * b.scaleNum / b.scaleDen

/-- OUT_H = floor(SRC_H x SCALE) (R141). -/
def Board.outH (b : Board) : Nat := b.srcH * b.scaleNum / b.scaleDen

/-- The number of elements of SCRATCH (R60, R63). -/
def Board.outSize (b : Board) : Nat := b.outW * b.outH

/-- OFF_X = floor((PANEL_W - OUT_W) / 2) (R150). -/
def Board.offX (b : Board) : Nat := (b.panelW - b.outW) / 2

/-- OFF_Y = floor((PANEL_H - OUT_H) / 2) (R150). -/
def Board.offY (b : Board) : Nat := (b.panelH - b.outH) / 2

/-- The three scaling functions of the scale context (R32). -/
inductive ScaleFn where
  | identity
  | dup2
  | nearest
deriving DecidableEq, Repr

/-- R141: the function is selected from SCALE alone. -/
def Board.scaleFn (b : Board) : ScaleFn :=
  if b.scaleNum = b.scaleDen then .identity
  else if b.scaleNum = 2 * b.scaleDen then .dup2
  else .nearest

/-- U7: the chip's division is exact, always so for an integer SCALE. -/
def Board.samplesExactly (b : Board) : Bool := b.exactDivision || b.scaleNum % b.scaleDen == 0

/-- floor(x / SCALE) (R142). -/
def Board.sampleFloor (b : Board) (x : Nat) : Nat := x * b.scaleDen / b.scaleNum

/-- KEYMAP (R185): none, or an 8-bit key code. -/
def Board.keyOf (b : Board) (c : Byte) : Option Byte := b.keymap.lookup c

/-- GAMMA (R151). -/
def Board.gammaOf (b : Board) (v : Byte) : Byte := b.gamma[v.toNat]'v.isLt

/-- CLUT_PACK (R10). The named packing is R147's `0xFF000000 or (r << 16) or (g << 8) or b`. -/
def Board.pack (b : Board) (r g bl : Byte) : ClutEntry :=
  match b.clutPack with
  | .argb8888 => ((0xFF : Byte) ++ r ++ g ++ bl).toNat
  | .other n => Config.clutPack n r g bl

/-- A value cut to the BPP bytes of a pixel (R10: PIXFMT yields a "pixel of BPP bytes"). -/
def Board.fit (b : Board) (v : Nat) : Pixel := v % 2 ^ (8 * b.bpp)

/-- PIXFMT (R147). -/
def Board.pixel (b : Board) (e : ClutEntry) : Pixel :=
  match b.pixFmt with
  | .identity => b.fit e
  | .other n => b.fit (Config.pixFmt n e)

/-- RENDER_MSG(c)[i] (R204). -/
def Board.messagePixel (b : Board) (c : Byte) (i : Nat) : Pixel := b.fit (Config.renderMsg c i)

/-- The bytes of a pixel from its lowest address up, for a byte-level view (R68). -/
def Board.pixelBytes (b : Board) (p : Pixel) : List Byte :=
  let little := (List.range b.bpp).map fun j => BitVec.ofNat 8 (p / 2 ^ (8 * j))
  match b.byteOrder with
  | .little => little
  | .big => little.reverse

/-- Element `i` of a framebuffer lies in the OUT_W x OUT_H region at (OFF_X, OFF_Y) (R67, R145). -/
def Board.inRegion (b : Board) (i : Nat) : Bool :=
  b.offX ≤ i % b.panelW && i % b.panelW < b.offX + b.outW
    && b.offY ≤ i / b.panelW && i / b.panelW < b.offY + b.outH

/-- The element of XSRC that the transfer converts for element `i` of its destination: `y*OUT_W + x` for the element
`(OFF_Y + y)*PANEL_W + (OFF_X + x)` (R145). -/
def Board.regionSource (b : Board) (i : Nat) : Nat :=
  (i / b.panelW - b.offY) * b.outW + (i % b.panelW - b.offX)

/-- R10: KEYMAP(b) = KEYMAP(b xor 0x20) for the letters 0x41..0x5A and 0x61..0x7A. -/
def Board.keymapCaseless (b : Board) : Bool :=
  (List.range 26).all fun j => b.keyOf (BitVec.ofNat 8 (0x41 + j)) == b.keyOf (BitVec.ofNat 8 (0x61 + j))

/-- The constraints of R10 and the side conditions of R141 and R72: "refuse the configuration" (U12) where they fail. -/
def Board.wf (b : Board) : Bool :=
  decide (1 ≤ b.panelW) && decide (1 ≤ b.panelH) && decide (1 ≤ b.bpp)
    && decide (b.fbAddr0 < 2 ^ b.aw) && decide (b.fbAddr1 < 2 ^ b.aw)
    && decide (b.fbAddr0 + b.fbSize * b.bpp ≤ b.fbAddr1 ∨ b.fbAddr1 + b.fbSize * b.bpp ≤ b.fbAddr0)
    && decide (1 ≤ b.srcW) && decide (1 ≤ b.srcH)
    && decide (1 ≤ b.scaleDen) && decide (b.scaleDen ≤ b.scaleNum)
    && decide (1 ≤ b.nScratch)
    && decide (10 ≤ b.blitTimeoutMs) && decide (b.blitTimeoutMs < 100)
    && decide (1 ≤ b.ringCap) && decide (1 ≤ b.fatalCadenceMs)
    && b.keymapCaseless
    && decide (b.outW ≤ b.panelW) && decide (b.outH ≤ b.panelH)

end Sys2Proof
end

