-- ==== Sys2Proof/Machine/State.lean ====
section
/-! DEFINITION. The whole state of the machine as plain data (spec/10_state.md, spec/20_memory.md), the reasons a step
can stop, and the reset state (spec/70_reset_and_hazards.md R271, R272). -/

namespace Sys2Proof.Machine

/-- `sys_state` (R43). -/
inductive SysState where
  | normal
  | failed
  | halted
deriving DecidableEq, Repr

/-- `fg_hold` (R45): the blocking operation FG is suspended in. -/
inductive FgHold where
  | none
  | fscWait
  | bseWait
  | palWait
deriving DecidableEq, Repr

/-- An entry of KEYTAB (R38). -/
structure KeyEntry where
  pressed : Bool
  lastActiveMs : Word32
deriving DecidableEq, Repr

/-- A record of LCDOUT (R48). -/
inductive LcdRecord where
  | reload (addr : Nat)
deriving DecidableEq, Repr

/-- A memory space or one view of it (R60, R66), as the list of the elements that hold a definite value, by rising
element index. An element that is not listed is unspecified: a read of it is `any` (R272). With bytes for elements it
is a list of `Host.Cell`. -/
abbrev Memory (α : Type) := List (Nat × α)

/-- The spaces the renderer stores into (R214). -/
inductive Space where
  | framebuffer
  | source
deriving DecidableEq, Repr

/-- What arrives from outside for the next step: an operation word (R90), or a store burst of the renderer, which has no
encoding (R214). A burst is the list of its stores, first to last. -/
inductive Input where
  | word (w : Word16)
  | drawPixels (k : FbIndex) (stores : List (Nat × Pixel))
  | drawSource (stores : List (Nat × Byte))
  | setPalette (stores : List (Byte × Rgb))
deriving DecidableEq, Repr

/-- The state. The docstring of each field names the spec's register and its rule. -/
structure State where
  /-- `draw_index` (R22) -/
  drawIndex : FbIndex
  /-- `frame_ready` (R23) -/
  frameReady : Bool
  /-- `double_buffer_enabled` (R24) -/
  doubleBufferEnabled : Bool
  /-- `refresh_counter` (R25), a number below 2^CNT_W -/
  refreshCounter : Nat
  /-- `visible_index` (R26), ghost -/
  visibleIndex : FbIndex
  /-- `lcd_addr` (R27), a number of AW bits -/
  lcdAddr : Nat
  /-- `refresh_irq_enabled` (R28) -/
  refreshIrqEnabled : Bool
  /-- `refresh_armed` (R29) -/
  refreshArmed : Bool
  /-- `bse_busy` (R33) -/
  bseBusy : Bool
  /-- `bse_done` (R33) -/
  bseDone : Bool
  /-- `bse_t0` (R33) -/
  bseT0 : Word32
  /-- `bse_dst` (R33) -/
  bseDst : FbIndex
  /-- `bse_taint` (R33), ghost -/
  bseTaint : Bool
  /-- `src_clean` (R34), ghost -/
  srcClean : Bool
  /-- `CLUT_HW[0..255]` (R35) -/
  clutHw : Vector ClutEntry 256
  /-- `clut_valid` (R35), ghost -/
  clutValid : Bool
  /-- `pal_busy` (R36) -/
  palBusy : Bool
  /-- `pal_done` (R36) -/
  palDone : Bool
  /-- `pal_err` (R36) -/
  palErr : Bool
  /-- `pal_t0` (R36) -/
  palT0 : Word32
  /-- `clut_clean` (R36), ghost -/
  clutClean : Bool
  /-- `pal_taint` (R36), ghost -/
  palTaint : Bool
  /-- `ring_buf[0..RING_CAP-1]` (R37) -/
  ringBuf : List Byte
  /-- `ring_head` (R37) -/
  ringHead : Nat
  /-- `ring_count` (R37) -/
  ringCount : Nat
  /-- `KEYTAB[0..255]` (R38) -/
  keytab : Vector KeyEntry 256
  /-- `engine_progress_counter` (R40), a number below 2^CNT_W -/
  engineProgressCounter : Nat
  /-- `lm_prog_seen` (R41) -/
  lmProgSeen : Nat
  /-- `lm_prog_ts` (R41) -/
  lmProgTs : Word32
  /-- `lm_ref_seen` (R41) -/
  lmRefSeen : Nat
  /-- `lm_ref_ts` (R41) -/
  lmRefTs : Word32
  /-- `reset_pending` (R42) -/
  resetPending : Bool
  /-- `sys_state` (R43) -/
  sysState : SysState
  /-- `already_failed` (R43), the error latch -/
  alreadyFailed : Bool
  /-- `fatal_cause` (R44) -/
  fatalCause : Byte
  /-- `fg_hold` (R45), ghost -/
  fgHold : FgHold
  /-- `now` (R46) -/
  now : Word32
  /-- `indicator` (R47) -/
  indicator : Bool
  /-- `LCDOUT` (R48), first record first -/
  lcdOut : List LcdRecord
  /-- `SERIAL_OUT` (R48), first line first -/
  serialOut : List Line
  /-- `RESET_REQ` (R48) -/
  resetReq : Nat
  /-- `RSP` (R93): the response word last returned to FG -/
  rsp : Word32
  /-- `FB[0]` (R61) -/
  fb0 : Memory Pixel
  /-- `FB[1]` (R61) -/
  fb1 : Memory Pixel
  /-- `SRC.cpu` (R62, R66) -/
  srcCpu : Memory Byte
  /-- `SRC.mem` -/
  srcMem : Memory Byte
  /-- `SCRATCH.cpu` (R63, R66) -/
  scratchCpu : Memory Byte
  /-- `SCRATCH.mem` -/
  scratchMem : Memory Byte
  /-- `PAL_IN` (R64) -/
  palIn : Memory Rgb
  /-- `CLUT_MEM.cpu` (R65, R66) -/
  clutCpu : Memory ClutEntry
  /-- `CLUT_MEM.mem` -/
  clutMem : Memory ClutEntry
  /-- The parameters (R10): "injected at startup"; the model's own field (log 1). -/
  board : Board
  /-- What is still to come (R101): the model's own field (log 2). -/
  trace : List Input
  /-- The number of the next draw of `any` (R13): the model's own field (log 3). -/
  draws : Nat
deriving DecidableEq, Repr

/-- Why the machine stops with a fault. The spec's own fatal errors are no faults of this kind: they are next states
(R204). -/
inductive Fault where
  /-- Raised by a renderer store (R214) to an element that its space does not have (R60). Safe: the model stops where
  the spec has no element to write. -/
  | noSuchElement (space : Space) (index : Nat)
deriving DecidableEq, Repr

/-- Why a step has no meaning: the `refuse` of spec/93_implementation_defined.md. -/
inductive Refusal where
  /-- An instruction without a meaning in the model; raised by no arm of `exec` now. Safe. -/
  | notModelled (mnemonic : String)
  /-- U1: a word that no row of R94 matches, raised by `step`, and by the meaning of SYS.FATAL for the operand 0.
  Safe: the spec gives such a word no meaning. -/
  | illegalWord (why : Illegal)
  /-- U2: an FG operation while `sys_state` or `fg_hold` does not let FG issue it (R14, R101), raised by every FG
  meaning. Safe: "the foreground cannot issue it". -/
  | foregroundNotEnabled
  /-- ENV.ETICK, ENV.SRCFILL or a renderer store while the renderer does not run (R211, R212, R214). Safe. -/
  | rendererNotEnabled
  /-- U3: BSE.START or BSE.PALLOAD while a transfer or a load is outstanding (R144, R153). Safe. -/
  | unitBusy
  /-- U4: BSE.DONE, BSE.PALDONE or BSE.PALERR with nothing in flight (R145, R154, R155). Safe: "the event cannot
  occur". -/
  | nothingInFlight
  /-- U12: a configuration that R10 does not admit, raised by `step`. Safe: "refuse the configuration". -/
  | badConfiguration
deriving DecidableEq, Repr

/-- The outcome of a step of this machine. -/
abbrev Outcome := Host.Outcome State Fault Refusal

/-- The reset state (R271, R272) on a given board, with the trace still to come and the number of the draw that gives
the unspecified registers their free values. -/
def State.resetWith (b : Board) (trace : List Input) (draw : Nat) : State where
  drawIndex := b.resetDrawIndex
  frameReady := false
  doubleBufferEnabled := false
  refreshCounter := 0
  visibleIndex := 1 - b.resetDrawIndex
  lcdAddr := b.fbAddr (1 - b.resetDrawIndex)
  refreshIrqEnabled := false
  refreshArmed := false
  bseBusy := false
  bseDone := false
  bseT0 := 0
  bseDst := 0
  bseTaint := false
  srcClean := false
  clutHw := Vector.ofFn fun i => Config.anyEntry draw i.val
  clutValid := false
  palBusy := false
  palDone := false
  palErr := false
  palT0 := 0
  clutClean := false
  palTaint := false
  ringBuf := (List.range b.ringCap).map (Config.anyByte draw)
  ringHead := 0
  ringCount := 0
  keytab := Vector.replicate 256 ⟨false, 0⟩
  engineProgressCounter := 0
  lmProgSeen := 0
  lmProgTs := 0
  lmRefSeen := 0
  lmRefTs := 0
  resetPending := false
  sysState := .normal
  alreadyFailed := false
  fatalCause := 0
  fgHold := .none
  now := 0
  indicator := false
  lcdOut := []
  serialOut := []
  resetReq := 0
  rsp := 0
  fb0 := []
  fb1 := []
  srcCpu := []
  srcMem := []
  scratchCpu := []
  scratchMem := []
  palIn := []
  clutCpu := []
  clutMem := []
  board := b
  trace := trace
  draws := draw + 1

/-- The machine right after reset, on the spec's test configuration (log 1), with nothing scheduled (log 2). -/
def State.reset : State := State.resetWith Board.t1 [] 0

end Sys2Proof.Machine
end

