-- ==== Sys2Proof/Machine/Flags.lean ====
section
/-! DEFINITION. The status view and every comparison the machine makes: FSC_STATUS (R30), the in-flight conditions, the
timed comparison (R243) and the enabling conditions (R14, R114, R211). -/

namespace Sys2Proof.Machine

/-- `(now -32 t) > P`, strict, modulo 2^32 (R12, R243, R244). -/
def expired (now t : Word32) (period : Nat) : Bool := decide (period < (now - t).toNat)

/-- A heartbeat counter plus one, modulo 2^CNT_W (R25, R40). -/
def bumpCounter (b : Board) (c : Nat) : Nat := (c + 1) % 2 ^ b.cntW

/-- R14: FG may issue an operation, SYS.FLOOP and SYS.FATAL apart. -/
abbrev State.FgEnabled (s : State) : Prop := s.sysState = .normal ∧ s.fgHold = .none

/-- R204, R101: FG may issue SYS.FATAL: in `Normal` or `Failed`, and awake (log 6). -/
abbrev State.FatalEnabled (s : State) : Prop := s.sysState ≠ .halted ∧ s.fgHold = .none

/-- R205, R101: FG may issue SYS.FLOOP: in `Failed`, and awake (log 6). -/
abbrev State.FloopEnabled (s : State) : Prop := s.sysState = .failed ∧ s.fgHold = .none

/-- R211, R212, R214: the renderer runs. -/
abbrev State.RendererEnabled (s : State) : Prop := s.sysState = .normal ∧ s.fgHold = .none

/-- R114: the refresh handler's body runs. -/
abbrev State.RefreshEnabled (s : State) : Prop := s.refreshIrqEnabled = true ∧ s.refreshArmed = true

/-- R142, R145: `bse_busy = 1` and `bse_done = 0`. -/
abbrev State.TransferInFlight (s : State) : Prop := s.bseBusy = true ∧ s.bseDone = false

/-- R154, R155: `pal_busy = 1`, `pal_done = 0`, `pal_err = 0`. -/
abbrev State.LoadPending (s : State) : Prop := s.palBusy = true ∧ s.palDone = false ∧ s.palErr = false

/-- R151: `pal_busy = 1` and `pal_done = 0`. -/
abbrev State.LoadInFlight (s : State) : Prop := s.palBusy = true ∧ s.palDone = false

/-- R144, R153: `bse_busy = 1` or `pal_busy = 1`. -/
abbrev State.UnitBusy (s : State) : Prop := s.bseBusy = true ∨ s.palBusy = true

/-- R145: the transfer's pixels are `any`. -/
abbrev State.TransferUnknown (s : State) : Prop := s.bseTaint = true ∨ s.clutValid = false

/-- FSC_STATUS (R30): `{0[25:0], refresh_armed, refresh_irq_enabled, visible_index, double_buffer_enabled, draw_index,
frame_ready}` (R119). -/
def State.fscStatus (s : State) : Word32 :=
  (0 : BitVec 26) ++ BitVec.ofBool s.refreshArmed ++ BitVec.ofBool s.refreshIrqEnabled
    ++ BitVec.ofBool (s.visibleIndex == 1) ++ BitVec.ofBool s.doubleBufferEnabled
    ++ BitVec.ofBool (s.drawIndex == 1) ++ BitVec.ofBool s.frameReady

end Sys2Proof.Machine
end

