-- ==== Sys2Proof/Machine/Ops.lean ====
section
/-! DEFINITION. The shared operations over memory and registers: the memory primitives (R66), the free draws (R13),
the ring (R181, R182), the fatal entry (R204), the held waits (R9), the enabling guards (R14). -/

namespace Sys2Proof.Machine

/-! ## Memory -/

/-- The element at an index, if it holds a definite value. -/
def Memory.read {α : Type} : Memory α → Nat → Option α
  | [], _ => none
  | (k, v) :: m, i => if k = i then some v else Memory.read m i

/-- A store of one element. -/
def Memory.write {α : Type} : Memory α → Nat → α → Memory α
  | [], i, v => [(i, v)]
  | (k, w) :: m, i, v =>
    if i < k then (i, v) :: (k, w) :: m
    else if i = k then (i, v) :: m
    else (k, w) :: Memory.write m i v

/-- Stores, first to last. -/
def Memory.writeAll {α : Type} (m : Memory α) (stores : List (Nat × α)) : Memory α :=
  stores.foldl (fun m st => m.write st.1 st.2) m

/-- A bulk store: of the elements below `n`, each element `i` with `f i = some v` becomes `v`. -/
def Memory.fill {α : Type} (n : Nat) (f : Nat → Option α) (m : Memory α) : Memory α :=
  (List.range n).filterMap (fun i => ((f i).or (Memory.read m i)).map fun v => (i, v))
    ++ m.filter fun e => decide (n ≤ e.1)

/-- The canonical form: addresses strictly rising. An unlisted element has no definite value, so no entry can equal
what it reads as. -/
def Memory.wf {α : Type} : Memory α → Bool
  | [] => true
  | (k, _) :: m => m.all (fun e => decide (k < e.1)) && Memory.wf m

/-- Every listed element lies below `n`. -/
def Memory.below {α : Type} (n : Nat) (m : Memory α) : Bool := m.all fun e => decide (e.1 < n)

/-- FB[k] (R60). -/
def State.fb (s : State) (k : FbIndex) : Memory Pixel := if k = 0 then s.fb0 else s.fb1

/-- FB[k] replaced. -/
def State.setFb (s : State) (k : FbIndex) (m : Memory Pixel) : State :=
  if k = 0 then { s with fb0 := m } else { s with fb1 := m }

/-- XSRC.cpu: SRC when `scale_fn = IDENTITY`, else SCRATCH (R32, R60). -/
def State.xsrcCpu (s : State) : Memory Byte :=
  match s.board.scaleFn with
  | .identity => s.srcCpu
  | .dup2 | .nearest => s.scratchCpu

/-- XSRC.mem (R32, R60). -/
def State.xsrcMem (s : State) : Memory Byte :=
  match s.board.scaleFn with
  | .identity => s.srcMem
  | .dup2 | .nearest => s.scratchMem

/-- XSRC.mem replaced. -/
def State.setXsrcMem (s : State) (m : Memory Byte) : State :=
  match s.board.scaleFn with
  | .identity => { s with srcMem := m }
  | .dup2 | .nearest => { s with scratchMem := m }

/-! ## Draws of `any` -/

/-- The draws of this step are made: the next step draws under a number of its own. -/
def State.drew (s : State) : State := { s with draws := s.draws + 1 }

/-- `MemRead(SRC.cpu[i])`, as draw `j` of the step where the element is unspecified (R66, R272). -/
def State.readSrc (s : State) (i j : Nat) : Byte := (s.srcCpu.read i).getD (Config.anyByte s.draws j)

/-- `MemRead(XSRC.mem[i])` (R66, R145). -/
def State.readXsrcMem (s : State) (i : Nat) : Byte := (s.xsrcMem.read i).getD (Config.anyByte s.draws i)

/-- `MemRead(PAL_IN[i])` (R151). -/
def State.readPalIn (s : State) (i : Nat) : Rgb :=
  (s.palIn.read i).getD
    ⟨Config.anyByte s.draws (3 * i), Config.anyByte s.draws (3 * i + 1), Config.anyByte s.draws (3 * i + 2)⟩

/-- `MemRead(CLUT_MEM.mem[i])` (R154). -/
def State.readClutMem (s : State) (i : Nat) : ClutEntry := (s.clutMem.read i).getD (Config.anyEntry s.draws i)

/-- `CLUT_HW[i]` (R35). -/
def State.clutEntry (s : State) (i : Byte) : ClutEntry := s.clutHw[i.toNat]'i.isLt

/-- What the scan-out shows at element `i` of the display (R67, R252): the visible framebuffer; `any` where the element
was never written (R272), and in the destination region of a transfer in flight (R81, U6). A view: no step reads it.
DESIGN CHOICE (log 3): the reader numbers its looks, and a look draws `any` under its own number from a family of its
own, so nothing relates what two looks show, nor what a look shows and what a transfer then writes. -/
def State.scanOut (s : State) (look i : Nat) : Pixel :=
  if s.TransferInFlight ∧ s.bseDst = s.visibleIndex ∧ s.board.inRegion i = true then
    s.board.fit (Config.anyShown look i)
  else ((s.fb s.visibleIndex).read i).getD (s.board.fit (Config.anyShown look i))

/-! ## The key table and the ring -/

/-- `KEYTAB[k]` (R38). -/
def State.key (s : State) (k : Byte) : KeyEntry := s.keytab[k.toNat]'k.isLt

/-- `KEYTAB[k] <- e`. -/
def State.setKey (s : State) (k : Byte) (e : KeyEntry) : State := { s with keytab := s.keytab.set k.toNat e k.isLt }

/-- push(b) (R181): the new byte is dropped when the queue is full. -/
def State.pushByte (s : State) (b : Byte) : State :=
  if s.ringCount < s.board.ringCap then
    { s with
      ringBuf := s.ringBuf.set ((s.ringHead + s.ringCount) % s.board.ringCap) b
      ringCount := s.ringCount + 1 }
  else s

/-- `ring_buf[i]`; a slot that the buffer does not have, which no run reaches (log 19), reads as a free value. -/
def State.ringByte (s : State) (i : Nat) : Byte := (s.ringBuf[i]?).getD (Config.anyByte s.draws i)

/-- pop() (R182), the state after it; the byte popped is `s.ringByte s.ringHead`. -/
def State.popped (s : State) : State :=
  { s with
    ringHead := (s.ringHead + 1) % s.board.ringCap
    ringCount := s.ringCount - 1 }

/-- `RING` (R37): the queue's content, oldest first. -/
def State.ring (s : State) : List Byte :=
  (List.range s.ringCount).map fun j => s.ringByte ((s.ringHead + j) % s.board.ringCap)

/-! ## The display controller -/

/-- The buffer-address register is written and the reload command issued (R252), and the visible buffer is now FB[k]:
the tail of R117, steps (a) and (b) of R114, and part of R204. -/
def State.display (s : State) (k : FbIndex) : State :=
  { s with
    lcdAddr := s.board.fbAddr k
    lcdOut := s.lcdOut ++ [.reload (s.board.fbAddr k)]
    visibleIndex := k }

/-! ## The fatal entry (R204, R238) -/

/-- `raise Fatal(c)` and SYS.FATAL c: the one exception of the machine. On first entry only: the latch, `Failed`, the
cause; the refresh interrupt disabled; FB[FATAL_FB] forced visible and the message rendered into it; FG's wait
dropped. While the latch is set it is a no-op that answers 0. There is no return from it (R239): the only exit is
ENV.RESET, `State.resetWith`. -/
def State.fatalEntry (c : Byte) (s : State) : State :=
  if s.alreadyFailed then { s with rsp := 0 }
  else
    let s1 := { s with
      alreadyFailed := true
      sysState := .failed
      fatalCause := c
      refreshIrqEnabled := false }
    let s2 := s1.display s.board.fatalFb
    let s3 := s2.setFb s.board.fatalFb
      (Memory.fill s.board.fbSize (fun i => some (s.board.messagePixel c i)) (s2.fb s.board.fatalFb))
    { s3 with fgHold := .none }

/-! ## Held waits (R9) -/

/-- The three results of an outcome function (R9). -/
inductive WaitOutcome where
  | complete
  | fatal (c : Byte)
  | held
deriving DecidableEq, Repr

/-- The outcome functions of FSC.WAIT (R113), BSE.WAIT (R146) and BSE.PALWAIT (R156), tested in their order. -/
def State.waitOutcome (s : State) : FgHold → WaitOutcome
  | .none => .complete
  | .fscWait => if s.frameReady then .held else .complete
  | .bseWait =>
    if s.bseBusy = false then .complete
    else if s.bseDone then .complete
    else if expired s.now s.bseT0 s.board.blitTimeoutMs then .fatal 1
    else .held
  | .palWait =>
    if s.palBusy = false then .complete
    else if s.palDone then .complete
    else if s.palErr || expired s.now s.palT0 s.board.clutTimeoutMs then .fatal 2
    else .held

/-- What a wait does when its outcome is `complete`: the busy bit is cleared (R146, R156), `fg_hold <- NONE`,
`RSP <- 0`. -/
def State.waitCompleted (s : State) : FgHold → State
  | .none => s
  | .fscWait => { s with fgHold := .none, rsp := 0 }
  | .bseWait => { s with bseBusy := false, fgHold := .none, rsp := 0 }
  | .palWait => { s with palBusy := false, fgHold := .none, rsp := 0 }

/-- One evaluation of a wait: on issue, and again after every step of another agent (R9). -/
def State.evalWait (h : FgHold) (s : State) : State :=
  match s.waitOutcome h with
  | .complete => s.waitCompleted h
  | .fatal c => s.fatalEntry c
  | .held => { s with fgHold := h }

/-- "a held wait is evaluated again" (R9): the end of every step of an agent other than FG. -/
def State.reevaluate (s : State) : State := s.evalWait s.fgHold

/-! ## Guards -/

/-- R14: an FG operation met while its precondition is false is `refuse`. -/
def withFg (s : State) (o : Outcome) : Outcome := if s.FgEnabled then o else .refused .foregroundNotEnabled

/-- R211: a step on the renderer's behalf. -/
def withRenderer (s : State) (o : Outcome) : Outcome := if s.RendererEnabled then o else .refused .rendererNotEnabled

/-- A step of an agent other than FG ends with the re-evaluation of a held wait (R9). -/
def thenReevaluate (s : State) : Outcome := .next s.reevaluate

/-! ## The ghost effects of a CPU store into XSRC -/

/-- R142, R212: `src_clean <- 0`, and the transfer in flight, if any, is tainted. -/
def State.storedXsrc (s : State) : State :=
  { s with
    srcClean := false
    bseTaint := if s.TransferInFlight then true else s.bseTaint }

/-- A CPU store into SRC.cpu: the last three lines of R212 (R214). -/
def State.storedSrc (s : State) : State :=
  match s.board.scaleFn with
  | .identity => s.storedXsrc
  | .dup2 | .nearest => s

end Sys2Proof.Machine
end

