-- ==== Sys2Proof/Machine/Operands.lean ====
section
/-! DEFINITION. The operand forms: the response words (R93), the sampled source element (R142), the pixel of a transfer
(R145), the telemetry line (R206). -/

namespace Sys2Proof.Machine

/-- `RSP <- zext_32(v)` (R93). Where `v` does not fit 32 bits the spec states no value: the response is free (log 7). -/
def State.respond (s : State) (v : Nat) : State :=
  if v < 2 ^ 32 then { s with rsp := BitVec.ofNat 32 v }
  else { s with rsp := Config.anyResponse s.draws, draws := s.draws + 1 }

/-- KDB.POLL's response (R93): bit 9 = VALID, bit 8 = PRESSED, bits 7:0 = KEYCODE, bits 31:10 = 0. -/
def keyEvent (pressed : Bool) (k : Byte) : Word32 := (0 : BitVec 22) ++ (1 : BitVec 1) ++ BitVec.ofBool pressed ++ k

/-- The source coordinate that the generic path samples for the coordinate `x` of the output (R142): floor(x/SCALE).
Where the chip's division is inexact, one of the floor and its two neighbours clipped to the source, as `choice` says
(U7, log 14). -/
def sampleCoord (b : Board) (size x : Nat) (choice : Fin 3) : Nat :=
  if b.samplesExactly then b.sampleFloor x
  else
    match choice with
    | 0 => b.sampleFloor x - 1
    | 1 => b.sampleFloor x
    | 2 => min (b.sampleFloor x + 1) (size - 1)

/-- The value that BSE.SCALE writes to element `j` of SCRATCH (R142), none where it writes nothing. In DUP2 a source
element is read once for its four writes, so its draw is numbered by the source element; in NEAREST each write reads. -/
def State.scaledElement (s : State) (j : Nat) : Option Byte :=
  let b := s.board
  let x := j % b.outW
  let y := j / b.outW
  match b.scaleFn with
  | .identity => none
  | .dup2 => some (s.readSrc (y / 2 * b.srcW + x / 2) (y / 2 * b.srcW + x / 2))
  | .nearest =>
    some (s.readSrc
      (sampleCoord b b.srcH y (Config.anyNeighbour s.draws (2 * j + 1)) * b.srcW
        + sampleCoord b b.srcW x (Config.anyNeighbour s.draws (2 * j))) j)

/-- The pixel that a completing transfer writes to element `i` of its destination (R145, R147), none outside the
region. -/
def State.transferPixel (s : State) (i : Nat) : Option Pixel :=
  if s.board.inRegion i = true then
    if s.TransferUnknown then some (s.board.fit (Config.anyPixel s.draws i))
    else some (s.board.pixel (s.clutEntry (s.readXsrcMem (s.board.regionSource i))))
  else none

/-- The entry that BSE.PALBUILD writes to element `i` of CLUT_MEM.cpu (R151). -/
def State.builtEntry (s : State) (i : Nat) : ClutEntry :=
  let c := s.readPalIn i
  s.board.pack (s.board.gammaOf c.r) (s.board.gammaOf c.g) (s.board.gammaOf c.b)

/-- The entry that a completing CLUT load writes to `CLUT_HW[i]` (R154). -/
def State.loadedEntry (s : State) (i : Nat) : ClutEntry :=
  if s.palTaint then Config.anyEntry s.draws i else s.readClutMem i

/-- The key that phase 2 of KDB.POLL tests (R184): pressed, and silent for longer than the hold window. -/
def State.keyExpired (s : State) (k : Byte) : Bool :=
  (s.key k).pressed && expired s.now (s.key k).lastActiveMs s.board.holdWindowMs

/-- The key codes in the order of the scan, 0 to 255 (R184). -/
def keyCodes : List Byte := (List.range 256).map (BitVec.ofNat 8)

/-- ASCII text as bytes. -/
def ascii (cs : List Char) : Line := cs.map fun c => BitVec.ofNat 8 c.toNat

/-- `dec(n)` (R206): the decimal digits of a number. -/
def decimal (n : Nat) : Line := ascii (Nat.toDigits 10 n)

/-- The telemetry line with its three numbers (R206). -/
def telemetryLine (fps cpu vsync : Nat) : Line :=
  ascii ['F', 'P', 'S', ' '] ++ decimal fps ++ ascii [' ', 'C', 'P', 'U'] ++ decimal cpu
    ++ ascii ['%', ' ', 'V', 'S', 'Y', 'N', 'C'] ++ decimal vsync ++ ascii ['H', 'z']

end Sys2Proof.Machine
end

