-- ==== Sys2Proof/Machine/Bse.lean ====
section
/-! DEFINITION. The meanings of the BSE operations (spec/41_bse_blit_scale.md). -/

namespace Sys2Proof.Machine

/-- BSE.SCALE (R142): SCRATCH.cpu from SRC.cpu. With SCALE = 1 no element is written and no ghost register changes. -/
def execBseScale (s : State) : Outcome :=
  withFg s (.next (
    match s.board.scaleFn with
    | .identity => { s with rsp := 0 }
    | .dup2 | .nearest =>
      let s1 := { s with scratchCpu := Memory.fill s.board.outSize s.scaledElement s.scratchCpu }
      { s1.storedXsrc.drew with rsp := 0 }))

/-- BSE.FLUSH (R143): `Flush(XSRC)`, element for element (R66). -/
def execBseFlush (s : State) : Outcome :=
  withFg s (.next { s.setXsrcMem s.xsrcCpu with srcClean := true, rsp := 0 })

/-- BSE.START (R144). -/
def execBseStart (s : State) : Outcome :=
  withFg s (
    if s.UnitBusy then .refused .unitBusy
    else .next { s with
      bseBusy := true
      bseDone := false
      bseT0 := s.now
      bseDst := s.drawIndex
      bseTaint := !s.srcClean
      rsp := 0 })

/-- BSE.WAIT (R146). -/
def execBseWait (s : State) : Outcome := withFg s (.next (s.evalWait .bseWait))

/-- BSE.DONE (R145): all reads and writes of the transfer, then `bse_done`. -/
def execBseDone (s : State) : Outcome :=
  if s.TransferInFlight then
    let s1 := s.setFb s.bseDst (Memory.fill s.board.fbSize s.transferPixel (s.fb s.bseDst))
    thenReevaluate { s1.drew with bseDone := true }
  else .refused .nothingInFlight

/-- BSE.PALBUILD (R151). -/
def execBsePalbuild (s : State) : Outcome :=
  withFg s (.next
    { s.drew with
      clutCpu := Memory.fill 256 (fun i => some (s.builtEntry i)) s.clutCpu
      clutClean := false
      palTaint := if s.LoadInFlight then true else s.palTaint
      rsp := 0 })

/-- BSE.PALFLUSH (R152): `Flush(CLUT_MEM)`. -/
def execBsePalflush (s : State) : Outcome := withFg s (.next { s with clutMem := s.clutCpu, clutClean := true, rsp := 0 })

/-- BSE.PALLOAD (R153). -/
def execBsePalload (s : State) : Outcome :=
  withFg s (
    if s.UnitBusy then .refused .unitBusy
    else .next { s with
      palBusy := true
      palDone := false
      palErr := false
      palT0 := s.now
      palTaint := !s.clutClean
      rsp := 0 })

/-- BSE.PALWAIT (R156). -/
def execBsePalwait (s : State) : Outcome := withFg s (.next (s.evalWait .palWait))

/-- BSE.PALDONE (R154). -/
def execBsePaldone (s : State) : Outcome :=
  if s.LoadPending then
    thenReevaluate { s.drew with
      clutHw := Vector.ofFn fun i => s.loadedEntry i.val
      clutValid := true
      palDone := true }
  else .refused .nothingInFlight

/-- BSE.PALERR (R155): every entry of CLUT_HW becomes `any`. -/
def execBsePalerr (s : State) : Outcome :=
  if s.LoadPending then
    thenReevaluate { s.drew with
      palErr := true
      clutHw := Vector.ofFn fun i => Config.anyEntry s.draws i.val
      clutValid := false }
  else .refused .nothingInFlight

end Sys2Proof.Machine
end

