-- ==== Sys2Proof/Machine/Env.lean ====
section
/-! DEFINITION. The meanings of the ENV operations (spec/43_sys_env.md R210 to R213) and the renderer's stores that have
no word (R214). -/

namespace Sys2Proof.Machine

/-- ENV.CLK n (R210). -/
def execEnvClk (n : Byte) (s : State) : Outcome := thenReevaluate { s with now := s.now + n.setWidth 32 }

/-- ENV.ETICK (R211). -/
def execEnvEtick (s : State) : Outcome :=
  withRenderer s (thenReevaluate
    { s with engineProgressCounter := bumpCounter s.board s.engineProgressCounter })

/-- ENV.SRCFILL v (R212). -/
def execEnvSrcfill (v : Byte) (s : State) : Outcome :=
  withRenderer s (thenReevaluate
    (State.storedSrc { s with srcCpu := Memory.fill s.board.srcSize (fun _ => some v) s.srcCpu }))

/-- ENV.RESET (R213): every register and log at its reset value, every element of memory unspecified. The board, the
rest of the trace and the numbering of the draws are not the machine's and go on. -/
def execEnvReset (s : State) : Outcome := thenReevaluate (State.resetWith s.board s.trace s.draws)

/-! The renderer's other writes (R214): "The model lets them write arbitrary values." -/

/-- The first store of a burst that no element of the space takes. -/
def firstOutside {α : Type} (size : Nat) (stores : List (Nat × α)) : Option Nat :=
  (stores.find? fun st => decide (size ≤ st.1)).map (·.1)

/-- Stores into FB[k], the framebuffer whose address the renderer holds; a pixel has BPP bytes (log 8). The protocol has
k = `draw_index` (R214); another k is the stale address of R275, into the other or the visible buffer (log 12). -/
def renderPixels (k : FbIndex) (stores : List (Nat × Pixel)) (s : State) : Outcome :=
  withRenderer s (
    match firstOutside s.board.fbSize stores with
    | some i => .fault (.noSuchElement .framebuffer i)
    | none => thenReevaluate (s.setFb k ((s.fb k).writeAll (stores.map fun st => (st.1, s.board.fit st.2)))))

/-- Stores into `SRC.cpu`, with the ghost effects of R212's last three lines. A burst of no stores changes nothing. -/
def renderSource (stores : List (Nat × Byte)) (s : State) : Outcome :=
  withRenderer s (
    match firstOutside s.board.srcSize stores with
    | some i => .fault (.noSuchElement .source i)
    | none => thenReevaluate
        (if stores.isEmpty then s else State.storedSrc { s with srcCpu := s.srcCpu.writeAll stores }))

/-- Stores into `PAL_IN`: the "set palette" call. -/
def renderPalette (stores : List (Byte × Rgb)) (s : State) : Outcome :=
  withRenderer s (thenReevaluate
    { s with palIn := s.palIn.writeAll (stores.map fun st => (st.1.toNat, st.2)) })

end Sys2Proof.Machine
end

