-- ==== Sys2Proof/Machine/Fsc.lean ====
section
/-! DEFINITION. The meanings of the FSC operations (spec/40_fsc_swap_coordinator.md). -/

namespace Sys2Proof.Machine

/-- FSC.BEGIN (R111): the address of the draw buffer. -/
def execFscBegin (s : State) : Outcome := withFg s (.next (s.respond (s.board.fbAddr s.drawIndex)))

/-- FSC.SUBMIT (R112). With a frame already pending the flag stays 1 (R112 (a), D12). -/
def execFscSubmit (s : State) : Outcome := withFg s (.next { s with frameReady := true, rsp := 0 })

/-- FSC.WAIT (R113). -/
def execFscWait (s : State) : Outcome := withFg s (.next (s.evalWait .fscWait))

/-- Steps (a) to (d) of the handler on a pending frame (R114). -/
def State.consumeFrame (s : State) : State :=
  let s1 := s.display s.drawIndex
  { s1 with
    drawIndex := if s.doubleBufferEnabled then 1 - s.drawIndex else s.drawIndex
    frameReady := false }

/-- The handler's body (R114). -/
def State.refreshBody (s : State) : State :=
  let s1 := if s.frameReady then s.consumeFrame else s
  { s1 with
    refreshArmed := true
    refreshCounter := bumpCounter s.board s.refreshCounter }

/-- FSC.REFRESH (R114): a scan event while disabled or unarmed is lost (D7). -/
def execFscRefresh (s : State) : Outcome := thenReevaluate (if s.RefreshEnabled then s.refreshBody else s)

/-- FSC.SETMODE m (R115). -/
def execFscSetmode (m : Bool) (s : State) : Outcome := withFg s (.next { s with doubleBufferEnabled := m, rsp := 0 })

/-- FSC.IRQCTL e (R116). -/
def execFscIrqctl (e : Bool) (s : State) : Outcome :=
  withFg s (.next { s with
    refreshIrqEnabled := e
    refreshArmed := if e then true else s.refreshArmed
    rsp := 0 })

/-- FSC.FORCEVIS k (R117). -/
def execFscForcevis (k : FbIndex) (s : State) : Outcome := withFg s (.next { s.display k with rsp := 0 })

/-- FSC.RDCNT (R118). -/
def execFscRdcnt (s : State) : Outcome := withFg s (.next (s.respond s.refreshCounter))

/-- FSC.RDSTAT (R119). -/
def execFscRdstat (s : State) : Outcome := withFg s (.next { s with rsp := s.fscStatus })

end Sys2Proof.Machine
end

