-- ==== Sys2Proof/Machine/Kdb.lean ====
section
/-! DEFINITION. The meanings of the KDB operations (spec/42_kdb_key_debouncer.md). -/

namespace Sys2Proof.Machine

/-- KDB.RX b (R183): the byte is pushed unmapped; it runs in every `sys_state`. -/
def execKdbRx (b : Byte) (s : State) : Outcome := thenReevaluate (s.pushByte b)

/-- Phase 1 of KDB.POLL (R184): at most `n` pops; the key of the first mapped byte, if any, and the state after the
pops. Unmapped bytes are dropped. -/
def State.drain : Nat → State → Option Byte × State
  | 0, s => (none, s)
  | n + 1, s =>
    match s.board.keyOf (s.ringByte s.ringHead) with
    | some k => (some k, s.popped)
    | none => State.drain n s.popped

/-- Phase 2 of KDB.POLL (R184): the first pressed key, in ascending key code, whose hold window has passed is
released. -/
def State.expireKey (s : State) : State :=
  match keyCodes.find? s.keyExpired with
  | some k => { s.setKey k { s.key k with pressed := false } with rsp := keyEvent false k }
  | none => { s with rsp := 0 }

/-- KDB.POLL (R184). -/
def execKdbPoll (s : State) : Outcome :=
  withFg s (.next (
    match State.drain s.ringCount s with
    | (some k, s1) => { s1.setKey k ⟨true, s.now⟩ with rsp := keyEvent true k }
    | (none, s1) => s1.expireKey))

end Sys2Proof.Machine
end

