-- ==== Sys2Proof/Machine/Sys.lean ====
section
/-! DEFINITION. The meanings of the SYS operations (spec/43_sys_env.md R201 to R209). -/

namespace Sys2Proof.Machine

/-- The renderer heartbeat of SYS.CHECK (R201). -/
def State.checkProgress (s : State) : State :=
  if s.engineProgressCounter ≠ s.lmProgSeen then
    { s with lmProgSeen := s.engineProgressCounter, lmProgTs := s.now }
  else if expired s.now s.lmProgTs s.board.progressTimeoutMs = true ∧ s.resetPending = false then
    { s with resetPending := true, resetReq := s.resetReq + 1 }
  else s

/-- The display heartbeat of SYS.CHECK (R201): past the deadline, Fatal(REFRESH_STALE), cause 3. -/
def State.checkRefresh (s : State) : State :=
  if s.refreshCounter ≠ s.lmRefSeen then
    { s with lmRefSeen := s.refreshCounter, lmRefTs := s.now, rsp := 0 }
  else if expired s.now s.lmRefTs s.board.refreshTimeoutMs then s.fatalEntry 3
  else { s with rsp := 0 }

/-- SYS.CHECK (R201): the renderer check, then the display check, both in every call. -/
def execSysCheck (s : State) : Outcome := withFg s (.next s.checkProgress.checkRefresh)

/-- SYS.FATAL c issued by FG (R204): in `Normal` or `Failed`, and awake; the operand 0 is illegal (R95, R231). -/
def execSysFatal (c : Byte) (s : State) : Outcome :=
  if c = 0 then .refused (.illegalWord .causeZero)
  else if s.FatalEnabled then .next (s.fatalEntry c)
  else .refused .foregroundNotEnabled

/-- SYS.FLOOP (R205): the message once more, the indicator toggled. -/
def execSysFloop (s : State) : Outcome :=
  if s.FloopEnabled then
    .next { s with
      serialOut := s.serialOut ++ [Config.msg s.fatalCause]
      indicator := !s.indicator
      rsp := 0 }
  else .refused .foregroundNotEnabled

/-- SYS.TELEM (R206): the three numbers are `any`. -/
def execSysTelem (s : State) : Outcome :=
  withFg s (.next { s.drew with
    serialOut := s.serialOut ++
      [telemetryLine (Config.anyNumber s.draws 0) (Config.anyNumber s.draws 1) (Config.anyNumber s.draws 2)]
    rsp := 0 })

/-- SYS.INITFAIL (R209): it never returns, so it answers no response word (log 5). -/
def execSysInitfail (s : State) : Outcome := withFg s (.next { s with sysState := .halted })

end Sys2Proof.Machine
end

