-- ==== Sys2Proof/Machine/Dispatch.lean ====
section
/-! DEFINITION. One arm per operation of spec/30_encoding.md R94. -/

namespace Sys2Proof.Machine

def exec (i : Instr) (s : State) : Host.Outcome State Fault Refusal :=
  match i with
  | .envClk n => Sys2Proof.Machine.execEnvClk n s
  | .envEtick => Sys2Proof.Machine.execEnvEtick s
  | .envSrcfill v => Sys2Proof.Machine.execEnvSrcfill v s
  | .envReset => Sys2Proof.Machine.execEnvReset s
  | .fscBegin => Sys2Proof.Machine.execFscBegin s
  | .fscSubmit => Sys2Proof.Machine.execFscSubmit s
  | .fscWait => Sys2Proof.Machine.execFscWait s
  | .fscRefresh => Sys2Proof.Machine.execFscRefresh s
  | .fscSetmode m => Sys2Proof.Machine.execFscSetmode m s
  | .fscIrqctl e => Sys2Proof.Machine.execFscIrqctl e s
  | .fscForcevis k => Sys2Proof.Machine.execFscForcevis k s
  | .fscRdcnt => Sys2Proof.Machine.execFscRdcnt s
  | .fscRdstat => Sys2Proof.Machine.execFscRdstat s
  | .bseScale => Sys2Proof.Machine.execBseScale s
  | .bseFlush => Sys2Proof.Machine.execBseFlush s
  | .bseStart => Sys2Proof.Machine.execBseStart s
  | .bseWait => Sys2Proof.Machine.execBseWait s
  | .bseDone => Sys2Proof.Machine.execBseDone s
  | .bsePalbuild => Sys2Proof.Machine.execBsePalbuild s
  | .bsePalflush => Sys2Proof.Machine.execBsePalflush s
  | .bsePalload => Sys2Proof.Machine.execBsePalload s
  | .bsePalwait => Sys2Proof.Machine.execBsePalwait s
  | .bsePaldone => Sys2Proof.Machine.execBsePaldone s
  | .bsePalerr => Sys2Proof.Machine.execBsePalerr s
  | .kdbRx b => Sys2Proof.Machine.execKdbRx b s
  | .kdbPoll => Sys2Proof.Machine.execKdbPoll s
  | .sysCheck => Sys2Proof.Machine.execSysCheck s
  | .sysFatal c => Sys2Proof.Machine.execSysFatal c s
  | .sysFloop => Sys2Proof.Machine.execSysFloop s
  | .sysTelem => Sys2Proof.Machine.execSysTelem s
  | .sysInitfail => Sys2Proof.Machine.execSysInitfail s

end Sys2Proof.Machine
end

