-- ==== Sys2Proof/Machine/Step.lean ====
section
/-! DEFINITION. One step of the machine: the next input of the trace is taken (R101). -/

namespace Sys2Proof.Machine

/-- What an input does: the operation its word spells, or a refusal for an illegal word (R95); a renderer store (R214). -/
def runInput (inp : Input) (s : State) : Outcome :=
  match inp with
  | .word w =>
    match decode w with
    | .ok i => exec i s
    | .error e => .refused (.illegalWord e)
  | .drawPixels k stores => renderPixels k stores s
  | .drawSource stores => renderSource stores s
  | .setPalette stores => renderPalette stores s

/-- One step. Where nothing is scheduled no agent takes a step and the state stays (log 2). A configuration that R10
does not admit is refused (U12). -/
def step (s : State) : Host.Outcome State Fault Refusal :=
  match s.trace with
  | [] => .next s
  | inp :: rest =>
    if s.board.wf then runInput inp { s with trace := rest } else .refused .badConfiguration

/-- The state with the word `w`, of which the table gives the low `nbits`, as the very next input. -/
def State.withFetchWord (s : State) (nbits w : Nat) : State :=
  { s with trace := .word (BitVec.ofNat 16 (w % 2 ^ nbits)) :: s.trace }

end Sys2Proof.Machine
end

