-- ==== Sys2Proof/Safety.lean ====
section
/-! DEFINITION. What holds of every state a run reaches: the invariants that spec/ states or implies, each by name, and
a run of several operations with nothing between them. -/

namespace Sys2Proof.Machine

/-- R10, R141: the configuration is one the spec admits. -/
abbrev State.BoardAdmitted (s : State) : Prop := s.board.wf = true

/-- R27, R31 (a): `lcd_addr = FB_ADDR[visible_index]`. -/
abbrev State.DisplayTracksVisible (s : State) : Prop := s.lcdAddr = s.board.fbAddr s.visibleIndex

/-- R43: "`already_failed = 1` exactly when `sys_state = Failed`". -/
abbrev State.LatchMatchesFailed (s : State) : Prop := s.alreadyFailed = true ↔ s.sysState = .failed

/-- R9, R31 (c): FG is held only in `Normal`, and only in a wait whose outcome is still open. -/
abbrev State.HoldJustified (s : State) : Prop :=
  s.fgHold = .none ∨
    (s.sysState = .normal ∧
      ((s.fgHold = .fscWait ∧ s.frameReady = true)
        ∨ (s.fgHold = .bseWait ∧ s.TransferInFlight)
        ∨ (s.fgHold = .palWait ∧ s.LoadPending)))

/-- R34, R36: a clean space has `mem = cpu`, element for element. -/
abbrev State.FlushedViewsAgree (s : State) : Prop :=
  (s.srcClean = true → s.xsrcMem = s.xsrcCpu) ∧ (s.clutClean = true → s.clutMem = s.clutCpu)

/-- R33, R36, R81: an untainted transfer or load in flight reads a space that is clean. -/
abbrev State.UntaintedIsFlushed (s : State) : Prop :=
  (s.TransferInFlight → s.bseTaint = false → s.srcClean = true)
    ∧ (s.LoadInFlight → s.palTaint = false → s.clutClean = true)

/-- R282: one hardware operation at a time. -/
abbrev State.OneUnitOperation (s : State) : Prop := ¬(s.bseBusy = true ∧ s.palBusy = true)

/-- R37: the ring's buffer has RING_CAP bytes, and its registers their ranges. -/
abbrev State.RingInBounds (s : State) : Prop :=
  s.ringBuf.length = s.board.ringCap ∧ s.ringHead < s.board.ringCap ∧ s.ringCount ≤ s.board.ringCap

/-- R25, R40, R41: the counters and the values last seen of them have CNT_W bits. -/
abbrev State.CountersInWidth (s : State) : Prop :=
  s.refreshCounter < 2 ^ s.board.cntW ∧ s.engineProgressCounter < 2 ^ s.board.cntW
    ∧ s.lmRefSeen < 2 ^ s.board.cntW ∧ s.lmProgSeen < 2 ^ s.board.cntW

/-- R29, R31 (b): the refresh interrupt is enabled only once it has been armed. -/
abbrev State.EnabledIsArmed (s : State) : Prop := s.refreshIrqEnabled = true → s.refreshArmed = true

/-- R42, R48: the reset is requested at most once before it takes effect. -/
abbrev State.ResetRequestedOnce (s : State) : Prop := s.resetReq = if s.resetPending then 1 else 0

/-- R204, R232: in `Failed` the refresh interrupt is off and FB[FATAL_FB] is on the display. -/
abbrev State.FailedShowsMessage (s : State) : Prop :=
  s.sysState = .failed → s.refreshIrqEnabled = false ∧ s.visibleIndex = s.board.fatalFb

/-- Every space is in canonical form and holds only elements that the space has (R60); the form of the model's memory. -/
abbrev State.MemoryCanonical (s : State) : Prop :=
  (Memory.wf s.fb0 = true ∧ Memory.below s.board.fbSize s.fb0 = true)
    ∧ (Memory.wf s.fb1 = true ∧ Memory.below s.board.fbSize s.fb1 = true)
    ∧ (Memory.wf s.srcCpu = true ∧ Memory.below s.board.srcSize s.srcCpu = true)
    ∧ (Memory.wf s.srcMem = true ∧ Memory.below s.board.srcSize s.srcMem = true)
    ∧ (Memory.wf s.scratchCpu = true ∧ Memory.below s.board.outSize s.scratchCpu = true)
    ∧ (Memory.wf s.scratchMem = true ∧ Memory.below s.board.outSize s.scratchMem = true)
    ∧ (Memory.wf s.palIn = true ∧ Memory.below 256 s.palIn = true)
    ∧ (Memory.wf s.clutCpu = true ∧ Memory.below 256 s.clutCpu = true)
    ∧ (Memory.wf s.clutMem = true ∧ Memory.below 256 s.clutMem = true)

/-- Every pixel of both framebuffers has BPP bytes (R10, R60). -/
abbrev State.PixelsFit (s : State) : Prop :=
  (∀ e ∈ s.fb0, e.2 < 2 ^ (8 * s.board.bpp)) ∧ (∀ e ∈ s.fb1, e.2 < 2 ^ (8 * s.board.bpp))

/-- All of them together. -/
structure State.Inv (s : State) : Prop where
  boardAdmitted : s.BoardAdmitted
  displayTracksVisible : s.DisplayTracksVisible
  latchMatchesFailed : s.LatchMatchesFailed
  holdJustified : s.HoldJustified
  flushedViewsAgree : s.FlushedViewsAgree
  untaintedIsFlushed : s.UntaintedIsFlushed
  oneUnitOperation : s.OneUnitOperation
  ringInBounds : s.RingInBounds
  countersInWidth : s.CountersInWidth
  enabledIsArmed : s.EnabledIsArmed
  resetRequestedOnce : s.ResetRequestedOnce
  failedShowsMessage : s.FailedShowsMessage
  memoryCanonical : s.MemoryCanonical
  pixelsFit : s.PixelsFit

/-- The element of the destination that the transfer writes for the pixel (x, y) of its output (R145). -/
def regionElement (b : Board) (x y : Nat) : Nat := (b.offY + y) * b.panelW + (b.offX + x)

/-- The element of SRC that the output pixel (x, y) samples (R157): `floor(y/SCALE)*SRC_W + floor(x/SCALE)`. -/
def sampledElement (b : Board) (x y : Nat) : Nat := b.sampleFloor y * b.srcW + b.sampleFloor x

/-- Operations one after another, with no other agent's step between them. -/
def execAll : List Instr → State → Outcome
  | [], s => .next s
  | i :: is, s =>
    match exec i s with
    | .next t => execAll is t
    | .fault r => .fault r
    | .refused r => .refused r

end Sys2Proof.Machine
end

