-- ==== Sys2Proof/Certificates/Slice0/Obligations.lean ====
section
/-! DEFINITION. The statements for the provers, each from the numbered rule of spec/ that its docstring names. A frame is
written as an equation: the next state, with the fields the rule writes put back, is the state before. -/

open Sys2Proof Sys2Proof.Machine

/-! ## The operation word (30) -/

/-- 30 R94: words of every unit, written out from the map, decode to their operations. -/
def Obligations.SampleWordsDecode : Prop :=
  decode 0x01FF = .ok (.envClk 255) ∧ decode 0x0400 = .ok .envReset
    ∧ decode 0x1300 = .ok .fscRefresh ∧ decode 0x1401 = .ok (.fscSetmode true) ∧ decode 0x1600 = .ok (.fscForcevis 0)
    ∧ decode 0x2400 = .ok .bseDone ∧ decode 0x2A00 = .ok .bsePalerr
    ∧ decode 0x3077 = .ok (.kdbRx 0x77) ∧ decode 0x3100 = .ok .kdbPoll
    ∧ decode 0x4103 = .ok (.sysFatal 3) ∧ decode 0x4400 = .ok .sysInitfail

/-- 30 R94: for every well-formed operation, with every operand, decoding its word gives it back. -/
def Obligations.DecodeOfEncodeIsIdentity : Prop := ∀ i : Instr, i.wf = true → decode (encode i) = .ok i

/-- 30 R94, R97: a legal word is the word of the operation it decodes to, and that operation is well formed. -/
def Obligations.LegalWordIsEncodingOfItsOperation : Prop :=
  ∀ (w : Word16) (i : Instr), decode w = .ok i → i.wf = true ∧ encode i = w

/-- 30 R94, R95: "A word `W` spells the operation of a row exactly when `W and mask = match`", SYS.FATAL's word with
c = 0 excepted. -/
def Obligations.WordSpellsRowExactlyByMask : Prop :=
  ∀ (w : Word16) (name : String),
    (∃ i, decode w = .ok i ∧ i.mnemonic = name)
      ↔ (w ≠ 0x4100 ∧ ∃ r ∈ opcodeMap, r.mnemonic = name ∧ w &&& r.mask = r.pattern)

/-- 30 R95: a word that no row of the map matches, and 0x4100, is illegal, and the step that meets it is refused. -/
def Obligations.IllegalWordIsRefused : Prop :=
  ∀ (s : State) (w : Word16) (rest : List Input), s.board.wf = true → s.trace = .word w :: rest →
    ((∀ r ∈ opcodeMap, w &&& r.mask ≠ r.pattern) ∨ w = 0x4100) →
    ∃ e, decode w = .error e ∧ step s = .refused (.illegalWord e)

/-! ## The step -/

/-- 30 R101: where the next word of the trace decodes to an operation, the step is that operation on the state with the
word taken. The same of the word that `withFetchWord` schedules (the model's own interface, log 2). -/
def Obligations.StepRunsDecodedOperation : Prop :=
  (∀ (s : State) (w : Word16) (rest : List Input) (i : Instr), s.board.wf = true → s.trace = .word w :: rest →
    decode w = .ok i → step s = exec i { s with trace := rest })
  ∧ (∀ (s : State) (w : Nat) (i : Instr), s.board.wf = true → decodeTableWord 16 w = some i →
    step (s.withFetchWord 16 w) = exec i s)

/-- 43 R214, 70 R275: the renderer's store into a framebuffer, `SRC.cpu` or `PAL_IN` writes the element it names, cut to a
pixel of BPP bytes in a framebuffer (the model's choice, log 8), and nothing else, the ghost effects of a store into
the transfer's source apart. The framebuffer is FB[draw_index] by the protocol, and the other one by the stale address
of R275 (log 12). The memory stored into is in canonical form, which every step keeps. -/
def Obligations.RendererStoreWritesItsElement : Prop :=
  (∀ (s : State) (rest : List Input) (k : FbIndex) (i : Nat) (p : Pixel), s.board.wf = true →
    s.trace = .drawPixels k [(i, p)] :: rest → s.RendererEnabled → i < s.board.fbSize →
    Memory.wf (s.fb k) = true →
    ∃ t, step s = .next t
      ∧ Memory.read (t.fb k) i = some (p % 2 ^ (8 * s.board.bpp))
      ∧ (∀ j, j ≠ i → Memory.read (t.fb k) j = Memory.read (s.fb k) j)
      ∧ (∀ m, m ≠ k → t.fb m = s.fb m)
      ∧ { t with fb0 := s.fb0, fb1 := s.fb1 } = { s with trace := rest })
  ∧ (∀ (s : State) (rest : List Input) (i : Nat) (v : Byte), s.board.wf = true →
    s.trace = .drawSource [(i, v)] :: rest → s.RendererEnabled → i < s.board.srcSize →
    Memory.wf s.srcCpu = true →
    ∃ t, step s = .next t
      ∧ Memory.read t.srcCpu i = some v
      ∧ (∀ j, j ≠ i → Memory.read t.srcCpu j = Memory.read s.srcCpu j)
      ∧ (s.board.scaleFn ≠ .identity → t.srcClean = s.srcClean ∧ t.bseTaint = s.bseTaint)
      ∧ (s.board.scaleFn = .identity → t.srcClean = false
          ∧ (s.TransferInFlight → t.bseTaint = true) ∧ (¬ s.TransferInFlight → t.bseTaint = s.bseTaint))
      ∧ { t with srcCpu := s.srcCpu, srcClean := s.srcClean, bseTaint := s.bseTaint } = { s with trace := rest })
  ∧ (∀ (s : State) (rest : List Input) (k : Byte) (c : Rgb), s.board.wf = true →
    s.trace = .setPalette [(k, c)] :: rest → s.RendererEnabled → Memory.wf s.palIn = true →
    ∃ t, step s = .next t
      ∧ Memory.read t.palIn k.toNat = some c
      ∧ (∀ j, j ≠ k.toNat → Memory.read t.palIn j = Memory.read s.palIn j)
      ∧ { t with palIn := s.palIn } = { s with trace := rest })

/-- 93 U12, 00 R10, 20 R72, 41 R141: a step of a machine whose configuration R10 does not admit is refused, whichever
of its constraints fails: a size, a capacity or a cadence of 0, SCALE below 1, a transfer deadline that is not tens of
milliseconds, a framebuffer address beyond AW bits, framebuffer regions that overlap, an output larger than the panel,
a key map that tells the two cases of a letter apart. That it is the step that refuses it is the model's choice
(log 13). -/
def Obligations.BadConfigurationIsRefused : Prop :=
  ∀ (s : State) (inp : Input) (rest : List Input), s.trace = inp :: rest →
    (s.board.panelW = 0 ∨ s.board.panelH = 0 ∨ s.board.bpp = 0 ∨ s.board.srcW = 0 ∨ s.board.srcH = 0
      ∨ s.board.nScratch = 0 ∨ s.board.ringCap = 0 ∨ s.board.fatalCadenceMs = 0
      ∨ s.board.scaleDen = 0 ∨ s.board.scaleNum < s.board.scaleDen
      ∨ s.board.blitTimeoutMs < 10 ∨ 100 ≤ s.board.blitTimeoutMs
      ∨ (∃ k, 2 ^ s.board.aw ≤ s.board.fbAddr k)
      ∨ (s.board.fbAddr 0 < s.board.fbAddr 1 + s.board.fbSize * s.board.bpp
          ∧ s.board.fbAddr 1 < s.board.fbAddr 0 + s.board.fbSize * s.board.bpp)
      ∨ s.board.panelW < s.board.outW ∨ s.board.panelH < s.board.outH
      ∨ (∃ c : Byte, ((0x41 ≤ c.toNat ∧ c.toNat ≤ 0x5A) ∨ (0x61 ≤ c.toNat ∧ c.toNat ≤ 0x7A))
          ∧ s.board.keyOf c ≠ s.board.keyOf (c ^^^ 0x20))) →
    step s = .refused .badConfiguration

/-! ## FSC (40) -/

/-- 40 R111: FSC.BEGIN answers the address of the draw buffer; nothing else changes. Where the address does not fit the
32 bits of the response (AW above 32) the answer is free (the model's choice, log 7). -/
def Obligations.BeginAnswersDrawBufferAddress : Prop :=
  decode 0x1000 = .ok .fscBegin ∧
  ∀ s : State, s.FgEnabled →
    ∃ t, exec .fscBegin s = .next t ∧ { t with rsp := s.rsp, draws := s.draws } = s
      ∧ (s.board.fbAddr s.drawIndex < 2 ^ 32 →
          t = { s with rsp := BitVec.ofNat 32 (s.board.fbAddr s.drawIndex) })

/-- 40 R112: FSC.SUBMIT sets `frame_ready`, whatever it was, and answers 0. -/
def Obligations.SubmitSetsFrameReady : Prop :=
  decode 0x1100 = .ok .fscSubmit ∧
  ∀ s : State, s.FgEnabled → exec .fscSubmit s = .next { s with frameReady := true, rsp := 0 }

/-- 40 R113: FSC.WAIT completes at once where no frame is pending, and else FG is held. -/
def Obligations.WaitIsHeldWhileFramePending : Prop :=
  decode 0x1200 = .ok .fscWait ∧
  ∀ s : State, s.FgEnabled →
    (s.frameReady = false → exec .fscWait s = .next { s with rsp := 0 })
      ∧ (s.frameReady = true → exec .fscWait s = .next { s with fgHold := .fscWait })

/-- 40 R113 (c): a wait held while the refresh interrupt is disabled or unarmed: no operation but ENV.RESET ends it, nor
the condition. -/
def Obligations.WaitWithoutInterruptNeverEnds : Prop :=
  ∀ (i : Instr) (s t : State), i ≠ .envReset → s.fgHold = .fscWait → s.frameReady = true → ¬ s.RefreshEnabled →
    exec i s = .next t → t.fgHold = .fscWait ∧ t.frameReady = true ∧ ¬ t.RefreshEnabled

/-- 40 R114: the refresh-interrupt handler, disabled, without a frame, and consuming one; a held wait is evaluated
again after it (00 R9). -/
def Obligations.RefreshHandlerConsumesFrame : Prop :=
  decode 0x1300 = .ok .fscRefresh ∧
  ∀ s : State,
    (¬ s.RefreshEnabled → exec .fscRefresh s = .next s.reevaluate)
      ∧ (s.RefreshEnabled → s.frameReady = false →
          exec .fscRefresh s = .next (State.reevaluate
            { s with refreshCounter := (s.refreshCounter + 1) % 2 ^ s.board.cntW }))
      ∧ (s.RefreshEnabled → s.frameReady = true →
          exec .fscRefresh s = .next (State.reevaluate
            { s with
              lcdAddr := s.board.fbAddr s.drawIndex
              lcdOut := s.lcdOut ++ [.reload (s.board.fbAddr s.drawIndex)]
              visibleIndex := s.drawIndex
              drawIndex := if s.doubleBufferEnabled = true then 1 - s.drawIndex else s.drawIndex
              frameReady := false
              refreshCounter := (s.refreshCounter + 1) % 2 ^ s.board.cntW }))

/-- 40 R115, R116, R117: FSC.SETMODE, FSC.IRQCTL and FSC.FORCEVIS write their registers and nothing else. -/
def Obligations.SwapConfigurationWrites : Prop :=
  (decode 0x1400 = .ok (.fscSetmode false) ∧ decode 0x1401 = .ok (.fscSetmode true)
    ∧ decode 0x1500 = .ok (.fscIrqctl false) ∧ decode 0x1501 = .ok (.fscIrqctl true)
    ∧ decode 0x1600 = .ok (.fscForcevis 0) ∧ decode 0x1601 = .ok (.fscForcevis 1)) ∧
  ∀ s : State, s.FgEnabled →
    (∀ m, exec (.fscSetmode m) s = .next { s with doubleBufferEnabled := m, rsp := 0 })
      ∧ exec (.fscIrqctl true) s = .next { s with refreshIrqEnabled := true, refreshArmed := true, rsp := 0 }
      ∧ exec (.fscIrqctl false) s = .next { s with refreshIrqEnabled := false, rsp := 0 }
      ∧ (∀ k, exec (.fscForcevis k) s = .next
          { s with
            lcdAddr := s.board.fbAddr k
            lcdOut := s.lcdOut ++ [.reload (s.board.fbAddr k)]
            visibleIndex := k
            rsp := 0 })

/-- 40 R118: FSC.RDCNT answers `refresh_counter`; nothing else changes. Where the counter does not fit the 32 bits of
the response (CNT_W above 32) the answer is free (the model's choice, log 7). -/
def Obligations.RdcntAnswersRefreshCounter : Prop :=
  decode 0x1700 = .ok .fscRdcnt ∧
  ∀ s : State, s.FgEnabled →
    ∃ t, exec .fscRdcnt s = .next t ∧ { t with rsp := s.rsp, draws := s.draws } = s
      ∧ (s.refreshCounter < 2 ^ 32 → t = { s with rsp := BitVec.ofNat 32 s.refreshCounter })

/-- 40 R119, 10 R30: FSC.RDSTAT answers the six bits of FSC_STATUS in their places, and 0 above them; on the reset state
of the default RESET_DRAW_INDEX = 1 that is 0x00000002. -/
def Obligations.RdstatAnswersSwapState : Prop :=
  decode 0x1800 = .ok .fscRdstat ∧
  (∀ s : State, s.FgEnabled →
    ∃ t, exec .fscRdstat s = .next t ∧ { t with rsp := s.rsp } = s
      ∧ t.rsp.getLsbD 0 = s.frameReady
      ∧ t.rsp.getLsbD 1 = decide (s.drawIndex = 1)
      ∧ t.rsp.getLsbD 2 = s.doubleBufferEnabled
      ∧ t.rsp.getLsbD 3 = decide (s.visibleIndex = 1)
      ∧ t.rsp.getLsbD 4 = s.refreshIrqEnabled
      ∧ t.rsp.getLsbD 5 = s.refreshArmed
      ∧ (∀ j, 6 ≤ j → t.rsp.getLsbD j = false))
  ∧ (∀ (b : Board) (tr : List Input) (d : Nat), b.resetDrawIndex = 1 → (State.resetWith b tr d).fscStatus = 0x00000002)

/-- 40 R121 (b), (c): N times FSC.SUBMIT and its consumption, in double-buffer mode: `draw_index` is `(d0 + N) mod 2`,
`refresh_counter` is `(c0 + N) mod 2^CNT_W`, and after the first consumption the display shows the other buffer. -/
def Obligations.ConsumedFramesAlternateBuffers : Prop :=
  ∀ (n : Nat) (s : State), s.FgEnabled → s.RefreshEnabled → s.doubleBufferEnabled = true → s.frameReady = false →
    s.refreshCounter < 2 ^ s.board.cntW →
    ∃ t, execAll (List.replicate n [Instr.fscSubmit, Instr.fscRefresh]).flatten s = .next t
      ∧ t.drawIndex.val = (s.drawIndex.val + n) % 2
      ∧ t.refreshCounter = (s.refreshCounter + n) % 2 ^ s.board.cntW
      ∧ t.frameReady = false
      ∧ (0 < n → t.visibleIndex = 1 - t.drawIndex ∧ t.lcdAddr = s.board.fbAddr t.visibleIndex)
      ∧ t.lcdOut.length = s.lcdOut.length + n

/-- 40 R122: in single-buffer mode the draw buffer is always the same, and after the first consumption it is the one on
the display. -/
def Obligations.SingleBufferModeNeverFlips : Prop :=
  ∀ (n : Nat) (s : State), s.FgEnabled → s.RefreshEnabled → s.doubleBufferEnabled = false → s.frameReady = false →
    ∃ t, execAll (List.replicate n [Instr.fscSubmit, Instr.fscRefresh]).flatten s = .next t
      ∧ t.drawIndex = s.drawIndex
      ∧ (0 < n → t.visibleIndex = s.drawIndex ∧ t.lcdAddr = s.board.fbAddr s.drawIndex)
      ∧ t.lcdOut.length = s.lcdOut.length + n

/-! ## Held waits (00 R9) -/

/-- 00 R9: the evaluation of a held wait after a step of another agent, by the three outcome functions of 40 R113, 41
R146 and R156 in their order: complete, fatal, held. -/
def Obligations.HeldWaitFollowsItsOutcomeFunction : Prop :=
  ∀ s : State,
    (s.fgHold = .none → s.reevaluate = s)
      ∧ (s.fgHold = .fscWait → s.reevaluate =
          if s.frameReady = false then { s with fgHold := .none, rsp := 0 } else s)
      ∧ (s.fgHold = .bseWait → s.reevaluate =
          if s.bseBusy = false ∨ s.bseDone = true then { s with bseBusy := false, fgHold := .none, rsp := 0 }
          else if s.board.blitTimeoutMs < (s.now - s.bseT0).toNat then s.fatalEntry 1
          else s)
      ∧ (s.fgHold = .palWait → s.reevaluate =
          if s.palBusy = false ∨ s.palDone = true then { s with palBusy := false, fgHold := .none, rsp := 0 }
          else if s.palErr = true ∨ s.board.clutTimeoutMs < (s.now - s.palT0).toNat then s.fatalEntry 2
          else s)

/-- 00 R9: after every step of an agent other than FG, no wait is left held whose outcome is not `held`. The latch is
clear while a wait is held, which every step keeps (`State.Inv`). -/
def Obligations.NoSettledWaitStaysHeld : Prop :=
  ∀ (i : Instr) (s t : State), i.agent ≠ .fg → (s.alreadyFailed = true → s.fgHold = .none) → exec i s = .next t →
    t.fgHold = .none
      ∨ (t.fgHold = .fscWait ∧ t.frameReady = true)
      ∨ (t.fgHold = .bseWait ∧ t.bseBusy = true ∧ t.bseDone = false
          ∧ (t.now - t.bseT0).toNat ≤ t.board.blitTimeoutMs)
      ∨ (t.fgHold = .palWait ∧ t.palBusy = true ∧ t.palDone = false ∧ t.palErr = false
          ∧ (t.now - t.palT0).toNat ≤ t.board.clutTimeoutMs)

/-! ## BSE (41) -/

/-- 41 R142, IDENTITY: no element is written and no ghost register changes. -/
def Obligations.ScaleAtOneWritesNothing : Prop :=
  decode 0x2000 = .ok .bseScale ∧
  ∀ s : State, s.FgEnabled → s.board.scaleNum = s.board.scaleDen → exec .bseScale s = .next { s with rsp := 0 }

/-- 41 R142, DUP2: "each source pixel is written to a 2×2 block", for all source images; a source element that holds no
definite value gives one and the same value to its block. Nothing but SCRATCH.cpu and the ghost registers changes. -/
def Obligations.ScaleByTwoDuplicatesPixels : Prop :=
  ∀ s : State, s.FgEnabled → s.board.wf = true → s.board.scaleNum = 2 * s.board.scaleDen →
    ∃ t, exec .bseScale s = .next t
      ∧ (∀ x y dx dy, x < s.board.srcW → y < s.board.srcH → dx < 2 → dy < 2 →
          ∃ v, (∀ u, Memory.read s.srcCpu (y * s.board.srcW + x) = some u → v = u)
            ∧ Memory.read t.scratchCpu ((2 * y + dy) * s.board.outW + (2 * x + dx)) = some v
            ∧ Memory.read t.scratchCpu (2 * y * s.board.outW + 2 * x) = some v)
      ∧ (∀ i, s.board.outSize ≤ i → Memory.read t.scratchCpu i = Memory.read s.scratchCpu i)
      ∧ t.srcClean = false ∧ t.rsp = 0
      ∧ (s.TransferInFlight → t.bseTaint = true) ∧ (¬ s.TransferInFlight → t.bseTaint = s.bseTaint)
      ∧ { t with
          scratchCpu := s.scratchCpu, srcClean := s.srcClean, bseTaint := s.bseTaint, rsp := s.rsp
          draws := s.draws } = s

/-- 41 R142, NEAREST: element (x, y) is the source element `(floor(x/SCALE), floor(y/SCALE))` where the chip's division
is exact, and else one whose coordinates differ from those by at most one: the second of the two readings that 93 U7
offers, the model's choice (log 14). It always lies in the source. -/
def Obligations.ScaleSamplesNearestNeighbour : Prop :=
  ∀ s : State, s.FgEnabled → s.board.wf = true → s.board.scaleFn = .nearest →
    ∃ t, exec .bseScale s = .next t
      ∧ (∀ x y, x < s.board.outW → y < s.board.outH →
          ∃ sx sy v, sx < s.board.srcW ∧ sy < s.board.srcH
            ∧ sx ≤ s.board.sampleFloor x + 1 ∧ s.board.sampleFloor x ≤ sx + 1
            ∧ sy ≤ s.board.sampleFloor y + 1 ∧ s.board.sampleFloor y ≤ sy + 1
            ∧ (s.board.samplesExactly = true → sx = s.board.sampleFloor x ∧ sy = s.board.sampleFloor y)
            ∧ (∀ u, Memory.read s.srcCpu (sy * s.board.srcW + sx) = some u → v = u)
            ∧ Memory.read t.scratchCpu (y * s.board.outW + x) = some v)
      ∧ (∀ i, s.board.outSize ≤ i → Memory.read t.scratchCpu i = Memory.read s.scratchCpu i)
      ∧ t.srcClean = false ∧ t.rsp = 0
      ∧ (s.TransferInFlight → t.bseTaint = true) ∧ (¬ s.TransferInFlight → t.bseTaint = s.bseTaint)
      ∧ { t with
          scratchCpu := s.scratchCpu, srcClean := s.srcClean, bseTaint := s.bseTaint, rsp := s.rsp
          draws := s.draws } = s

/-- 41 R143: BSE.FLUSH makes XSRC.mem equal XSRC.cpu, SRC where SCALE = 1 and SCRATCH otherwise, and `src_clean` 1. -/
def Obligations.FlushCopiesSourceToMemory : Prop :=
  decode 0x2100 = .ok .bseFlush ∧
  ∀ s : State, s.FgEnabled →
    (s.board.scaleNum = s.board.scaleDen →
        exec .bseFlush s = .next { s with srcMem := s.srcCpu, srcClean := true, rsp := 0 })
      ∧ (s.board.scaleNum ≠ s.board.scaleDen →
        exec .bseFlush s = .next { s with scratchMem := s.scratchCpu, srcClean := true, rsp := 0 })

/-- 41 R144: BSE.START triggers the transfer of the draw buffer, and is refused while the unit is busy. -/
def Obligations.StartTriggersTransfer : Prop :=
  decode 0x2200 = .ok .bseStart ∧
  ∀ s : State, s.FgEnabled →
    (s.bseBusy = false → s.palBusy = false →
        exec .bseStart s = .next
          { s with
            bseBusy := true, bseDone := false, bseT0 := s.now, bseDst := s.drawIndex
            bseTaint := !s.srcClean, rsp := 0 })
      ∧ (s.bseBusy = true ∨ s.palBusy = true → exec .bseStart s = .refused .unitBusy)

/-- 41 R146: BSE.WAIT: completion first, then the deadline, strict and modulo 2^32, else held. -/
def Obligations.BlitWaitIsBounded : Prop :=
  decode 0x2300 = .ok .bseWait ∧
  ∀ s : State, s.FgEnabled →
    (s.bseBusy = false → exec .bseWait s = .next { s with rsp := 0 })
      ∧ (s.bseBusy = true → s.bseDone = true → exec .bseWait s = .next { s with bseBusy := false, rsp := 0 })
      ∧ (s.bseBusy = true → s.bseDone = false → s.board.blitTimeoutMs < (s.now - s.bseT0).toNat →
          exec .bseWait s = .next (s.fatalEntry 1))
      ∧ (s.bseBusy = true → s.bseDone = false → (s.now - s.bseT0).toNat ≤ s.board.blitTimeoutMs →
          exec .bseWait s = .next { s with fgHold := .bseWait })

/-- 41 R145, R147, R150: BSE.DONE writes the centred region of FB[bse_dst] and no other pixel, each pixel the conversion
of its flushed index, or some pixel where the transfer is tainted or no palette is loaded; then `bse_done`. A held wait
is evaluated again after it (00 R9). Without a transfer in flight it is refused. That every pixel is below 2^(8 BPP) is
the model's cut (log 8). -/
def Obligations.TransferConvertsCentredRegion : Prop :=
  decode 0x2400 = .ok .bseDone ∧
  ∀ s : State, s.board.wf = true →
    (s.TransferInFlight →
      ∃ u : State, exec .bseDone s = .next u.reevaluate
        ∧ (∀ x y, x < s.board.outW → y < s.board.outH →
            ∃ p, Memory.read (u.fb s.bseDst)
                (((s.board.panelH - s.board.outH) / 2 + y) * s.board.panelW
                  + ((s.board.panelW - s.board.outW) / 2 + x)) = some p
              ∧ p < 2 ^ (8 * s.board.bpp)
              ∧ (s.bseTaint = false → s.clutValid = true →
                  ∀ idx : Byte, Memory.read s.xsrcMem (y * s.board.outW + x) = some idx →
                    p = s.board.pixel (s.clutHw[idx.toNat]'idx.isLt)))
        ∧ (∀ i, (∀ x y, x < s.board.outW → y < s.board.outH → i ≠ regionElement s.board x y) →
            Memory.read (u.fb s.bseDst) i = Memory.read (s.fb s.bseDst) i)
        ∧ (∀ k, k ≠ s.bseDst → u.fb k = s.fb k)
        ∧ u.bseDone = true
        ∧ { u with fb0 := s.fb0, fb1 := s.fb1, bseDone := s.bseDone, draws := s.draws } = s)
      ∧ (¬ s.TransferInFlight → exec .bseDone s = .refused .nothingInFlight)

/-- 41 R151: BSE.PALBUILD writes every element of CLUT_MEM.cpu from PAL_IN, gamma-corrected a channel and packed, and
taints a load in flight. -/
def Obligations.PalbuildPacksGammaCorrectedPalette : Prop :=
  decode 0x2500 = .ok .bsePalbuild ∧
  ∀ s : State, s.FgEnabled →
    ∃ t, exec .bsePalbuild s = .next t
      ∧ (∀ i, i < 256 → ∃ e, Memory.read t.clutCpu i = some e
          ∧ ∀ c : Rgb, Memory.read s.palIn i = some c →
              e = s.board.pack (s.board.gammaOf c.r) (s.board.gammaOf c.g) (s.board.gammaOf c.b))
      ∧ (∀ i, 256 ≤ i → Memory.read t.clutCpu i = Memory.read s.clutCpu i)
      ∧ t.clutClean = false ∧ t.rsp = 0
      ∧ (s.palBusy = true ∧ s.palDone = false → t.palTaint = true)
      ∧ (¬(s.palBusy = true ∧ s.palDone = false) → t.palTaint = s.palTaint)
      ∧ { t with
          clutCpu := s.clutCpu, clutClean := s.clutClean, palTaint := s.palTaint, rsp := s.rsp
          draws := s.draws } = s

/-- 41 R152, R153: BSE.PALFLUSH makes CLUT_MEM.mem equal CLUT_MEM.cpu; BSE.PALLOAD starts the load, and is refused while
the unit is busy. -/
def Obligations.PalflushAndPalloadPrepareLoad : Prop :=
  (decode 0x2600 = .ok .bsePalflush ∧ decode 0x2700 = .ok .bsePalload) ∧
  ∀ s : State, s.FgEnabled →
    exec .bsePalflush s = .next { s with clutMem := s.clutCpu, clutClean := true, rsp := 0 }
      ∧ (s.palBusy = false → s.bseBusy = false →
          exec .bsePalload s = .next
            { s with
              palBusy := true, palDone := false, palErr := false, palT0 := s.now
              palTaint := !s.clutClean, rsp := 0 })
      ∧ (s.palBusy = true ∨ s.bseBusy = true → exec .bsePalload s = .refused .unitBusy)

/-- 41 R156: BSE.PALWAIT: completion first, then a reported failure or the deadline, else held. -/
def Obligations.PaletteWaitIsBounded : Prop :=
  decode 0x2800 = .ok .bsePalwait ∧
  ∀ s : State, s.FgEnabled →
    (s.palBusy = false → exec .bsePalwait s = .next { s with rsp := 0 })
      ∧ (s.palBusy = true → s.palDone = true → exec .bsePalwait s = .next { s with palBusy := false, rsp := 0 })
      ∧ (s.palBusy = true → s.palDone = false →
          (s.palErr = true ∨ s.board.clutTimeoutMs < (s.now - s.palT0).toNat) →
          exec .bsePalwait s = .next (s.fatalEntry 2))
      ∧ (s.palBusy = true → s.palDone = false → s.palErr = false →
          (s.now - s.palT0).toNat ≤ s.board.clutTimeoutMs →
          exec .bsePalwait s = .next { s with fgHold := .palWait })

/-- 41 R154, R155: BSE.PALDONE loads CLUT_HW from CLUT_MEM.mem, untainted; BSE.PALERR leaves CLUT_HW with no valid
content. Each is followed by the evaluation of a held wait (00 R9), and refused with no load pending. -/
def Obligations.ClutLoadCompletesOrFails : Prop :=
  (decode 0x2900 = .ok .bsePaldone ∧ decode 0x2A00 = .ok .bsePalerr) ∧
  ∀ s : State,
    (s.LoadPending →
      (∃ u : State, exec .bsePaldone s = .next u.reevaluate
        ∧ (s.palTaint = false → ∀ i : Byte, ∀ e, Memory.read s.clutMem i.toNat = some e → u.clutHw[i.toNat]'i.isLt = e)
        ∧ u.clutValid = true ∧ u.palDone = true
        ∧ { u with clutHw := s.clutHw, clutValid := s.clutValid, palDone := s.palDone, draws := s.draws } = s)
      ∧ (∃ u : State, exec .bsePalerr s = .next u.reevaluate
        ∧ u.palErr = true ∧ u.clutValid = false
        ∧ { u with clutHw := s.clutHw, clutValid := s.clutValid, palErr := s.palErr, draws := s.draws } = s))
    ∧ (¬ s.LoadPending →
        exec .bsePaldone s = .refused .nothingInFlight ∧ exec .bsePalerr s = .refused .nothingInFlight)

/-- 41 R157: BSE.CONVERT, with `n` milliseconds and then BSE.DONE inside its wait, not past the deadline: the draw buffer
holds the converted, upscaled image in its centred region, its other pixels are unchanged, the frame is submitted and
the unit is free. The spec derives R157 from R142 to R146. -/
def Obligations.ConvertPresentsScaledImage : Prop :=
  ∀ (s : State) (n : Byte), s.board.wf = true → s.FgEnabled → s.board.samplesExactly = true →
    s.clutValid = true → s.frameReady = false → s.bseBusy = false → s.palBusy = false →
    n.toNat ≤ s.board.blitTimeoutMs →
    ∃ t, execAll [.bseScale, .bseFlush, .bseStart, .bseWait, .envClk n, .bseDone, .fscSubmit] s = .next t
      ∧ (∀ x y, x < s.board.outW → y < s.board.outH →
          ∀ v : Byte, Memory.read s.srcCpu (sampledElement s.board x y) = some v →
            Memory.read (t.fb s.drawIndex) (regionElement s.board x y)
              = some (s.board.pixel (s.clutHw[v.toNat]'v.isLt)))
      ∧ (∀ i, (∀ x y, x < s.board.outW → y < s.board.outH → i ≠ regionElement s.board x y) →
          Memory.read (t.fb s.drawIndex) i = Memory.read (s.fb s.drawIndex) i)
      ∧ t.frameReady = true ∧ t.bseBusy = false ∧ t.fgHold = .none ∧ t.sysState = .normal

/-- 41 R157, R146, R159: if DMA does not complete before the deadline, BSE.CONVERT ends in the fatal state with cause 1,
its transfer abandoned, and FSC.SUBMIT is refused. -/
def Obligations.ConvertTimesOutFatally : Prop :=
  ∀ (s : State) (n : Byte), s.board.wf = true → s.FgEnabled → s.alreadyFailed = false →
    s.bseBusy = false → s.palBusy = false → s.board.blitTimeoutMs < n.toNat →
    ∃ t, execAll [.bseScale, .bseFlush, .bseStart, .bseWait, .envClk n] s = .next t
      ∧ t.sysState = .failed ∧ t.fatalCause = 1 ∧ t.alreadyFailed = true ∧ t.bseBusy = true
      ∧ t.frameReady = s.frameReady
      ∧ exec .fscSubmit t = .refused .foregroundNotEnabled

/-- 41 R158: BSE.SETPAL, with `n` milliseconds and then BSE.PALDONE inside its wait, not past the deadline: CLUT_HW holds
the gamma-corrected, packed palette, and no framebuffer changes. -/
def Obligations.SetpalLoadsGammaCorrectedPalette : Prop :=
  ∀ (s : State) (n : Byte), s.FgEnabled → s.bseBusy = false → s.palBusy = false →
    n.toNat ≤ s.board.clutTimeoutMs →
    ∃ t, execAll [.bsePalbuild, .bsePalflush, .bsePalload, .bsePalwait, .envClk n, .bsePaldone] s = .next t
      ∧ (∀ i : Byte, ∀ c : Rgb, Memory.read s.palIn i.toNat = some c →
          t.clutHw[i.toNat]'i.isLt
            = s.board.pack (s.board.gammaOf c.r) (s.board.gammaOf c.g) (s.board.gammaOf c.b))
      ∧ t.clutValid = true ∧ t.palBusy = false ∧ t.fgHold = .none
      ∧ t.fb0 = s.fb0 ∧ t.fb1 = s.fb1

/-! ## KDB (42) -/

/-- 42 R183, R181: KDB.RX appends its byte to RING, and drops it where the ring is full; it runs in every `sys_state`,
and a held wait is evaluated again after it. -/
def Obligations.ReceivedByteIsQueuedOrDropped : Prop :=
  (∀ b : Byte, decode (0x3000 + b.setWidth 16) = .ok (.kdbRx b)) ∧
  ∀ (b : Byte) (s : State),
    (s.ringCount < s.board.ringCap → s.RingInBounds →
      ∃ u : State, exec (.kdbRx b) s = .next u.reevaluate
        ∧ u.ring = s.ring ++ [b] ∧ u.ringCount = s.ringCount + 1
        ∧ { u with ringBuf := s.ringBuf, ringCount := s.ringCount } = s)
      ∧ (s.board.ringCap ≤ s.ringCount → exec (.kdbRx b) s = .next s.reevaluate)

/-- 42 R184, phase 1: KDB.POLL pops up to the first mapped byte, drops the unmapped ones before it, marks its key pressed
now, and answers the key-down; the bytes behind it stay queued. -/
def Obligations.PollReportsFirstMappedByte : Prop :=
  ∀ (s : State) (pre post : List Byte) (b k : Byte), s.FgEnabled → s.RingInBounds →
    s.ring = pre ++ b :: post → (∀ c ∈ pre, s.board.keyOf c = none) → s.board.keyOf b = some k →
    ∃ t, exec .kdbPoll s = .next t
      ∧ t.ring = post
      ∧ t.key k = ⟨true, s.now⟩ ∧ (∀ j, j ≠ k → t.key j = s.key j)
      ∧ t.rsp.toNat = 0x300 + k.toNat
      ∧ { t with ringHead := s.ringHead, ringCount := s.ringCount, keytab := s.keytab, rsp := s.rsp } = s

/-- 42 R184, phase 2: with no mapped byte queued, KDB.POLL drops the queue and releases the expired key of the lowest
code, its timestamp kept; with none expired it answers 0. -/
def Obligations.PollReleasesFirstExpiredKey : Prop :=
  ∀ s : State, s.FgEnabled → s.RingInBounds → (∀ c ∈ s.ring, s.board.keyOf c = none) →
    (∀ k : Byte,
      (s.key k).pressed = true → s.board.holdWindowMs < (s.now - (s.key k).lastActiveMs).toNat →
      (∀ j : Byte, j.toNat < k.toNat →
        ¬((s.key j).pressed = true ∧ s.board.holdWindowMs < (s.now - (s.key j).lastActiveMs).toNat)) →
      ∃ t, exec .kdbPoll s = .next t
        ∧ t.ring = []
        ∧ t.key k = ⟨false, (s.key k).lastActiveMs⟩ ∧ (∀ j, j ≠ k → t.key j = s.key j)
        ∧ t.rsp.toNat = 0x200 + k.toNat
        ∧ { t with ringHead := s.ringHead, ringCount := s.ringCount, keytab := s.keytab, rsp := s.rsp } = s)
    ∧ ((∀ j : Byte,
        ¬((s.key j).pressed = true ∧ s.board.holdWindowMs < (s.now - (s.key j).lastActiveMs).toNat)) →
      ∃ t, exec .kdbPoll s = .next t
        ∧ t.ring = [] ∧ t.rsp = 0
        ∧ { t with ringHead := s.ringHead, ringCount := s.ringCount, rsp := s.rsp } = s)

/-- 42 R186: one byte for a key on a silent line, no other key pressed: one key-down at the poll that pops it; at a poll
`n` milliseconds later one key-up exactly if `n` exceeds the hold window; and no event at the poll after that. `n` is at
most 255, the reach of one ENV.CLK. The form for one key on a silent line is the one the spec derives from R184. -/
def Obligations.OneKeyUpAfterHoldWindow : Prop :=
  ∀ (s : State) (b k n : Byte), s.FgEnabled → s.RingInBounds → s.ringCount = 0 → s.board.keyOf b = some k →
    (∀ j : Byte, (s.key j).pressed = false) →
    ∃ t u v, execAll [.kdbRx b, .kdbPoll] s = .next t ∧ t.rsp.toNat = 0x300 + k.toNat
      ∧ execAll [.envClk n, .kdbPoll] t = .next u
      ∧ (n.toNat ≤ s.board.holdWindowMs → u.rsp = 0 ∧ (u.key k).pressed = true)
      ∧ (s.board.holdWindowMs < n.toNat → u.rsp.toNat = 0x200 + k.toNat ∧ (u.key k).pressed = false)
      ∧ exec .kdbPoll u = .next v ∧ v.rsp = 0

/-- 42 R185, 00 R10: the key map of every admitted configuration is case-insensitive on letters. -/
def Obligations.KeymapIgnoresCase : Prop :=
  ∀ (b : Board) (c : Byte), b.wf = true →
    ((0x41 ≤ c.toNat ∧ c.toNat ≤ 0x5A) ∨ (0x61 ≤ c.toNat ∧ c.toNat ≤ 0x7A)) → b.keyOf c = b.keyOf (c ^^^ 0x20)

/-! ## SYS (43) -/

/-- 43 R201: SYS.CHECK: the renderer check, then the display check, both in every call. -/
def Obligations.CheckTestsBothHeartbeats : Prop :=
  decode 0x4000 = .ok .sysCheck ∧
  ∀ s : State, s.FgEnabled →
    ∃ u : State,
      (s.engineProgressCounter ≠ s.lmProgSeen →
          u = { s with lmProgSeen := s.engineProgressCounter, lmProgTs := s.now })
      ∧ (s.engineProgressCounter = s.lmProgSeen → s.board.progressTimeoutMs < (s.now - s.lmProgTs).toNat →
          s.resetPending = false → u = { s with resetPending := true, resetReq := s.resetReq + 1 })
      ∧ (s.engineProgressCounter = s.lmProgSeen →
          ((s.now - s.lmProgTs).toNat ≤ s.board.progressTimeoutMs ∨ s.resetPending = true) → u = s)
      ∧ (s.refreshCounter ≠ s.lmRefSeen →
          exec .sysCheck s = .next { u with lmRefSeen := s.refreshCounter, lmRefTs := s.now, rsp := 0 })
      ∧ (s.refreshCounter = s.lmRefSeen → s.board.refreshTimeoutMs < (s.now - s.lmRefTs).toNat →
          exec .sysCheck s = .next (u.fatalEntry 3))
      ∧ (s.refreshCounter = s.lmRefSeen → (s.now - s.lmRefTs).toNat ≤ s.board.refreshTimeoutMs →
          exec .sysCheck s = .next { u with rsp := 0 })

/-- 43 R204, 60 R238: the fatal entry, by SYS.FATAL and by `raise Fatal(c)` alike: on first entry the latch, the state,
the cause, the interrupt, the display and the message, element for element; while the latch is set, a no-op. In
`Halted` SYS.FATAL is refused, and so is the cause 0. That it is refused too while FG is held in a wait is the model's
reading (log 6), and so is the cut of a message pixel to BPP bytes (log 8) inside `messagePixel`. -/
def Obligations.FatalEntryIsOneShot : Prop :=
  (∀ (c : Byte) (s : State), s.alreadyFailed = true → s.fatalEntry c = { s with rsp := 0 })
  ∧ (∀ (c : Byte) (s : State), s.alreadyFailed = false →
      (s.fatalEntry c).alreadyFailed = true
      ∧ (s.fatalEntry c).sysState = .failed
      ∧ (s.fatalEntry c).fatalCause = c
      ∧ (s.fatalEntry c).refreshIrqEnabled = false
      ∧ (s.fatalEntry c).lcdAddr = s.board.fbAddr s.board.fatalFb
      ∧ (s.fatalEntry c).lcdOut = s.lcdOut ++ [.reload (s.board.fbAddr s.board.fatalFb)]
      ∧ (s.fatalEntry c).visibleIndex = s.board.fatalFb
      ∧ (s.fatalEntry c).fgHold = .none
      ∧ (∀ i, i < s.board.fbSize →
          Memory.read ((s.fatalEntry c).fb s.board.fatalFb) i = some (s.board.messagePixel c i))
      ∧ (∀ i, s.board.fbSize ≤ i →
          Memory.read ((s.fatalEntry c).fb s.board.fatalFb) i = Memory.read (s.fb s.board.fatalFb) i)
      ∧ (∀ k, k ≠ s.board.fatalFb → (s.fatalEntry c).fb k = s.fb k)
      ∧ { s.fatalEntry c with
          alreadyFailed := s.alreadyFailed, sysState := s.sysState, fatalCause := s.fatalCause
          refreshIrqEnabled := s.refreshIrqEnabled, lcdAddr := s.lcdAddr, lcdOut := s.lcdOut
          visibleIndex := s.visibleIndex, fgHold := s.fgHold, rsp := s.rsp, fb0 := s.fb0, fb1 := s.fb1 } = s)
  ∧ (∀ c : Byte, c ≠ 0 → decode (0x4100 + c.setWidth 16) = .ok (.sysFatal c))
  ∧ (∀ (c : Byte) (s : State), c ≠ 0 → s.sysState ≠ .halted → s.fgHold = .none →
      exec (.sysFatal c) s = .next (s.fatalEntry c))
  ∧ (∀ (c : Byte) (s : State), c ≠ 0 → (s.sysState = .halted ∨ s.fgHold ≠ .none) →
      exec (.sysFatal c) s = .refused .foregroundNotEnabled)
  ∧ (∀ s : State, exec (.sysFatal 0) s = .refused (.illegalWord .causeZero))

/-- 43 R205, R206, R209, 30 R93: SYS.FLOOP emits the message and toggles the indicator, in `Failed` only; SYS.TELEM emits
a telemetry line with three numbers, whichever; SYS.INITFAIL halts. The response 0 of the first two is read from R93
(log 5); that FG must be awake for SYS.FLOOP is the model's reading (log 6). -/
def Obligations.FatalLoopTelemetryAndHalt : Prop :=
  (decode 0x4200 = .ok .sysFloop ∧ decode 0x4300 = .ok .sysTelem ∧ decode 0x4400 = .ok .sysInitfail) ∧
  ∀ s : State,
    (s.sysState = .failed → s.fgHold = .none →
        exec .sysFloop s = .next
          { s with serialOut := s.serialOut ++ [Config.msg s.fatalCause], indicator := !s.indicator, rsp := 0 })
    ∧ (s.sysState ≠ .failed → exec .sysFloop s = .refused .foregroundNotEnabled)
    ∧ (s.FgEnabled → ∃ t fps cpu vsync, exec .sysTelem s = .next t
        ∧ t.serialOut = s.serialOut ++ [telemetryLine fps cpu vsync] ∧ t.rsp = 0
        ∧ { t with serialOut := s.serialOut, rsp := s.rsp, draws := s.draws } = s)
    ∧ (s.FgEnabled → ∃ t, exec .sysInitfail s = .next t ∧ t.sysState = .halted
        ∧ { t with sysState := s.sysState, rsp := s.rsp } = s)

/-! ## ENV (43) -/

/-- 43 R210: ENV.CLK n advances `now` by n modulo 2^32, in every state; then a held wait is evaluated again. -/
def Obligations.ClockAdvancesNow : Prop :=
  (∀ n : Byte, decode (0x0100 + n.setWidth 16) = .ok (.envClk n)) ∧
  ∀ (n : Byte) (s : State), ∃ u : State, exec (.envClk n) s = .next u.reevaluate
    ∧ u.now.toNat = (s.now.toNat + n.toNat) % 2 ^ 32 ∧ { u with now := s.now } = s

/-- 43 R211, R212: ENV.ETICK advances the renderer's heartbeat; ENV.SRCFILL v makes every element of SRC.cpu v, with the
ghost effects where the transfer reads SRC. Both need the renderer running, and are refused otherwise. -/
def Obligations.RendererTicksAndFillsSource : Prop :=
  (decode 0x0200 = .ok .envEtick ∧ ∀ v : Byte, decode (0x0300 + v.setWidth 16) = .ok (.envSrcfill v)) ∧
  ∀ s : State,
    (s.RendererEnabled →
      exec .envEtick s = .next
        { s with engineProgressCounter := (s.engineProgressCounter + 1) % 2 ^ s.board.cntW }
      ∧ ∀ v : Byte, ∃ t, exec (.envSrcfill v) s = .next t
        ∧ (∀ i, i < s.board.srcW * s.board.srcH → Memory.read t.srcCpu i = some v)
        ∧ (∀ i, s.board.srcW * s.board.srcH ≤ i → Memory.read t.srcCpu i = Memory.read s.srcCpu i)
        ∧ (s.board.scaleNum ≠ s.board.scaleDen → t.srcClean = s.srcClean ∧ t.bseTaint = s.bseTaint)
        ∧ (s.board.scaleNum = s.board.scaleDen → t.srcClean = false
            ∧ (s.TransferInFlight → t.bseTaint = true) ∧ (¬ s.TransferInFlight → t.bseTaint = s.bseTaint))
        ∧ { t with srcCpu := s.srcCpu, srcClean := s.srcClean, bseTaint := s.bseTaint } = s)
    ∧ (¬ s.RendererEnabled →
        exec .envEtick s = .refused .rendererNotEnabled
        ∧ ∀ v, exec (.envSrcfill v) s = .refused .rendererNotEnabled)

/-- 43 R213, 70 R271, R272: ENV.RESET, from any state: every register and log at the reset value of the table, and no
element of any memory space with a definite value. -/
def Obligations.ResetRestoresEveryRegister : Prop :=
  decode 0x0400 = .ok .envReset ∧
  ∀ s : State, ∃ t, exec .envReset s = .next t
    ∧ t.drawIndex = s.board.resetDrawIndex ∧ t.frameReady = false ∧ t.doubleBufferEnabled = false
    ∧ t.refreshCounter = 0 ∧ t.visibleIndex = 1 - s.board.resetDrawIndex
    ∧ t.lcdAddr = s.board.fbAddr (1 - s.board.resetDrawIndex)
    ∧ t.refreshIrqEnabled = false ∧ t.refreshArmed = false
    ∧ t.bseBusy = false ∧ t.bseDone = false ∧ t.bseT0 = 0 ∧ t.bseDst = 0 ∧ t.bseTaint = false
    ∧ t.srcClean = false ∧ t.clutValid = false
    ∧ t.palBusy = false ∧ t.palDone = false ∧ t.palErr = false ∧ t.palT0 = 0
    ∧ t.clutClean = false ∧ t.palTaint = false
    ∧ t.ringHead = 0 ∧ t.ringCount = 0 ∧ (∀ k, t.key k = ⟨false, 0⟩)
    ∧ t.engineProgressCounter = 0 ∧ t.lmProgSeen = 0 ∧ t.lmProgTs = 0 ∧ t.lmRefSeen = 0 ∧ t.lmRefTs = 0
    ∧ t.resetPending = false ∧ t.sysState = .normal ∧ t.alreadyFailed = false ∧ t.fatalCause = 0
    ∧ t.fgHold = .none ∧ t.now = 0 ∧ t.indicator = false
    ∧ t.lcdOut = [] ∧ t.serialOut = [] ∧ t.resetReq = 0
    ∧ (∀ i, Memory.read t.fb0 i = none ∧ Memory.read t.fb1 i = none
        ∧ Memory.read t.srcCpu i = none ∧ Memory.read t.srcMem i = none
        ∧ Memory.read t.scratchCpu i = none ∧ Memory.read t.scratchMem i = none
        ∧ Memory.read t.palIn i = none ∧ Memory.read t.clutCpu i = none ∧ Memory.read t.clutMem i = none)

/-! ## Rules of the whole machine -/

/-- 00 R14: an FG operation met while its precondition is false is refused: every one but SYS.FLOOP and SYS.FATAL outside
`Normal` or while FG is held; in `Halted` those two as well, and while FG is held (the model's reading, log 6). In
`Failed`, awake, SYS.FATAL changes nothing but RSP, the latch being set there. The spec marks R14 as derived. -/
def Obligations.ForegroundRefusedWhereNotEnabled : Prop :=
  (∀ (i : Instr) (s : State), i.agent = .fg → i ≠ .sysFloop → (∀ c, i ≠ .sysFatal c) →
      (s.sysState ≠ .normal ∨ s.fgHold ≠ .none) → exec i s = .refused .foregroundNotEnabled)
  ∧ (∀ (i : Instr) (s : State), i.agent = .fg → i.wf = true → (s.sysState = .halted ∨ s.fgHold ≠ .none) →
      exec i s = .refused .foregroundNotEnabled)
  ∧ (∀ (c : Byte) (s : State), c ≠ 0 → s.sysState = .failed → s.alreadyFailed = true → s.fgHold = .none →
      exec (.sysFatal c) s = .next { s with rsp := 0 })

/-- 10 R22, R23, R25, R38, R40, R42, R46, 70 R280: who writes what, ENV.RESET apart: `frame_ready` is set by FSC.SUBMIT only
and cleared by FSC.REFRESH only, `draw_index` and `refresh_counter` are FSC.REFRESH's, KEYTAB is KDB.POLL's, `now` is
ENV.CLK's, the renderer's heartbeat is ENV.ETICK's, `reset_pending` is set by SYS.CHECK and cleared by none. -/
def Obligations.RegistersHaveTheirWriters : Prop :=
  ∀ (i : Instr) (s t : State), i ≠ .envReset → exec i s = .next t →
    (s.frameReady = false → t.frameReady = true → i = .fscSubmit)
    ∧ (s.frameReady = true → t.frameReady = false → i = .fscRefresh)
    ∧ (t.drawIndex ≠ s.drawIndex → i = .fscRefresh ∧ s.doubleBufferEnabled = true ∧ s.frameReady = true)
    ∧ (t.refreshCounter ≠ s.refreshCounter → i = .fscRefresh)
    ∧ (t.doubleBufferEnabled ≠ s.doubleBufferEnabled → ∃ m, i = .fscSetmode m)
    ∧ (t.keytab ≠ s.keytab → i = .kdbPoll)
    ∧ (t.now ≠ s.now → ∃ n, i = .envClk n)
    ∧ (t.engineProgressCounter ≠ s.engineProgressCounter → i = .envEtick)
    ∧ (t.resetPending ≠ s.resetPending → i = .sysCheck ∧ t.resetPending = true)

/-- 20 R67, R60: who writes the memory spaces, ENV.RESET apart: a framebuffer element changes by BSE.DONE, in FB[bse_dst]
and its region, or by the first fatal entry, in FB[FATAL_FB]; SRC.cpu by ENV.SRCFILL; SCRATCH.cpu by BSE.SCALE; the `mem`
views by the flushes; CLUT_MEM.cpu by BSE.PALBUILD; CLUT_HW by BSE.PALDONE and BSE.PALERR; PAL_IN by no operation. -/
def Obligations.MemoryHasItsWriters : Prop :=
  ∀ (i : Instr) (s t : State), i ≠ .envReset → exec i s = .next t →
    (∀ k j, Memory.read (t.fb k) j ≠ Memory.read (s.fb k) j →
        (i = .bseDone ∧ k = s.bseDst ∧ s.board.inRegion j = true)
          ∨ (s.alreadyFailed = false ∧ t.alreadyFailed = true ∧ k = s.board.fatalFb))
    ∧ (t.srcCpu ≠ s.srcCpu → ∃ v, i = .envSrcfill v)
    ∧ (t.scratchCpu ≠ s.scratchCpu → i = .bseScale)
    ∧ (t.srcMem ≠ s.srcMem ∨ t.scratchMem ≠ s.scratchMem → i = .bseFlush)
    ∧ t.palIn = s.palIn
    ∧ (t.clutCpu ≠ s.clutCpu → i = .bsePalbuild)
    ∧ (t.clutMem ≠ s.clutMem → i = .bsePalflush)
    ∧ (t.clutHw ≠ s.clutHw → i = .bsePaldone ∨ i = .bsePalerr)

/-- 10 R43, R44, 43 R204, 60 R239, R242: no operation but ENV.RESET leaves `Failed` or `Halted` or changes the first
cause, and no FG operation but SYS.FLOOP and SYS.FATAL runs in `Failed`. The state is one that meets the invariant. -/
def Obligations.FailedAndHaltedAreTerminal : Prop :=
  ∀ (i : Instr) (s t : State), i ≠ .envReset → s.Inv → s.sysState ≠ .normal → exec i s = .next t →
    t.sysState = s.sysState ∧ t.fatalCause = s.fatalCause ∧ t.alreadyFailed = s.alreadyFailed
      ∧ (i.agent = .fg → s.sysState = .failed ∧ (i = .sysFloop ∨ ∃ c, i = .sysFatal c))

/-- 60 R239, R230: no operation stops the machine with a fault: a fatal error is a state the machine goes on in. -/
def Obligations.NoOperationFaults : Prop := ∀ (i : Instr) (s : State) (r : Fault), exec i s ≠ .fault r

/-- 00 R10, 10 R50: the parameters are fixed: no step changes them. -/
def Obligations.StepKeepsParameters : Prop := ∀ s t : State, step s = .next t → t.board = s.board

/-- 60 R233, R236: "no two handlers write a common register": the handlers of two different interrupt sources, FSC.REFRESH,
KDB.RX, and BSE.DONE or BSE.PALDONE of the blit source, commute. The premise is that no wait is held whose outcome is
already settled; every step leaves such a state (00 R9). -/
def Obligations.InterruptHandlersCommute : Prop :=
  ∀ (s : State) (b : Byte), s.reevaluate = s →
    execAll [.fscRefresh, .kdbRx b] s = execAll [.kdbRx b, .fscRefresh] s
    ∧ (s.TransferInFlight →
        execAll [.bseDone, .kdbRx b] s = execAll [.kdbRx b, .bseDone] s
        ∧ execAll [.fscRefresh, .bseDone] s = execAll [.bseDone, .fscRefresh] s)
    ∧ (s.LoadPending →
        execAll [.bsePaldone, .kdbRx b] s = execAll [.kdbRx b, .bsePaldone] s
        ∧ execAll [.fscRefresh, .bsePaldone] s = execAll [.bsePaldone, .fscRefresh] s)

/-! ## Invariants -/

/-- Every invariant of Safety.lean holds right after reset, on every admitted configuration, the model's own reset state
among them. -/
def Obligations.ResetMeetsInvariant : Prop :=
  (∀ (b : Board) (tr : List Input) (d : Nat), b.wf = true → (State.resetWith b tr d).Inv) ∧ State.reset.Inv

/-- Every step keeps every invariant: the display register tracks the visible buffer (10 R31), the latch is the state
(R43), a held wait is justified (R9), flushed views agree (R34), an untainted operation in flight reads a clean space,
the ring and the counters keep their ranges, memory its canonical form and pixels their width. -/
def Obligations.StepKeepsInvariant : Prop := ∀ s t : State, s.Inv → step s = .next t → t.Inv

/-- 10 R27, R31 (a): from every state with `lcd_addr = FB_ADDR[visible_index]`, whatever else holds, a step gives one. -/
def Obligations.StepKeepsDisplayTracksVisible : Prop :=
  ∀ s t : State, s.DisplayTracksVisible → step s = .next t → t.DisplayTracksVisible

/-- The model's memory (log 9): from every state whose spaces are in canonical form, whatever else holds, a step gives one. -/
def Obligations.StepKeepsMemoryCanonical : Prop :=
  ∀ s t : State, s.MemoryCanonical → step s = .next t → t.MemoryCanonical

/-- 10 R31 (d): while double buffering is on and the buffers are apart, a step that is no FSC.FORCEVIS and takes no fatal
entry leaves them apart. -/
def Obligations.DoubleBufferedBuffersStayApart : Prop :=
  ∀ s t : State, s.doubleBufferEnabled = true → s.visibleIndex = 1 - s.drawIndex → step s = .next t →
    (∀ w rest k, s.trace = .word w :: rest → decode w ≠ .ok (.fscForcevis k)) →
    (s.alreadyFailed = false → t.alreadyFailed = false) →
    t.visibleIndex = 1 - t.drawIndex

/-- 10 R42, R48, 43 R201 (c): a system reset is requested at most once before it takes effect: `RESET_REQ` is 1 while
`reset_pending` is 1, and else 0, which every step keeps. -/
def Obligations.StepKeepsResetRequestedOnce : Prop :=
  ∀ s t : State, s.ResetRequestedOnce → step s = .next t → t.ResetRequestedOnce
end

