-- ==== Sys2Proof/Laws/Memory.lean ====
section
/-! SUPPORT. What each memory operation does, said through the read of one element, and that each keeps the canonical
form and the bound on the elements. -/

namespace Sys2Proof.Machine

variable {α : Type}

@[simp] theorem Memory.read_nil (i : Nat) : Memory.read ([] : Memory α) i = none := rfl

/-- A read after a store: the value stored, and every other element as before. -/
theorem Memory.read_write (m : Memory α) (i j : Nat) (v : α) (h : Memory.wf m = true) :
    Memory.read (m.write i v) j = if j = i then some v else Memory.read m j := by
  induction m with
  | nil => simp [Memory.write, Memory.read, eq_comm]
  | cons e m ih =>
    obtain ⟨k, w⟩ := e
    simp only [Memory.wf, Bool.and_eq_true, List.all_eq_true, decide_eq_true_eq] at h
    simp only [Memory.write]
    by_cases h1 : i < k
    · rw [if_pos h1]
      simp only [Memory.read]
      by_cases h3 : j = i
      · simp [h3]
      · rw [if_neg (Ne.symm h3), if_neg h3]
    · rw [if_neg h1]
      by_cases h2 : i = k
      · subst h2
        rw [if_pos rfl]
        simp only [Memory.read]
        by_cases h3 : j = i
        · simp [h3]
        · rw [if_neg (Ne.symm h3), if_neg h3, if_neg (Ne.symm h3)]
      · rw [if_neg h2]
        simp only [Memory.read]
        rw [ih h.2]
        by_cases h3 : j = i
        · rw [if_pos h3, if_neg (by omega), if_pos h3]
        · simp only [if_neg h3]

theorem Memory.read_write_same (m : Memory α) (i : Nat) (v : α) (h : Memory.wf m = true) :
    Memory.read (m.write i v) i = some v := by simp [read_write m i i v h]

theorem Memory.read_write_other (m : Memory α) {i j : Nat} (v : α) (h : Memory.wf m = true) (hj : j ≠ i) :
    Memory.read (m.write i v) j = Memory.read m j := by simp [read_write m i j v h, hj]

/-- The entries of a memory after a store. -/
theorem Memory.mem_write (m : Memory α) (i : Nat) (v : α) (e : Nat × α) (he : e ∈ m.write i v) :
    e = (i, v) ∨ e ∈ m := by
  induction m with
  | nil => simpa [Memory.write] using he
  | cons a m ih =>
    obtain ⟨k, w⟩ := a
    simp only [Memory.write] at he
    split_ifs at he
    · simpa using he
    · rcases List.mem_cons.1 he with h | h
      · exact .inl h
      · exact .inr (List.mem_cons_of_mem _ h)
    · rcases List.mem_cons.1 he with h | h
      · exact .inr (by simp [h])
      · rcases ih h with h | h
        · exact .inl h
        · exact .inr (List.mem_cons_of_mem _ h)

/-- A store keeps the canonical form. -/
theorem Memory.wf_write (m : Memory α) (i : Nat) (v : α) (h : Memory.wf m = true) : Memory.wf (m.write i v) = true := by
  induction m with
  | nil => rfl
  | cons a m ih =>
    obtain ⟨k, w⟩ := a
    simp only [Memory.wf, Bool.and_eq_true, List.all_eq_true, decide_eq_true_eq] at h
    simp only [Memory.write]
    split_ifs with h1 h2
    · simp only [Memory.wf, Bool.and_eq_true, List.all_eq_true, decide_eq_true_eq]
      refine ⟨fun e he => ?_, h.1, h.2⟩
      rcases List.mem_cons.1 he with rfl | he
      · exact h1
      · exact lt_trans h1 (h.1 e he)
    · subst h2
      simpa only [Memory.wf, Bool.and_eq_true, List.all_eq_true, decide_eq_true_eq] using h
    · simp only [Memory.wf, Bool.and_eq_true, List.all_eq_true, decide_eq_true_eq]
      refine ⟨fun e he => ?_, ih h.2⟩
      rcases Memory.mem_write m i v e he with rfl | he
      · show k < i
        omega
      · exact h.1 e he

/-- A store inside the space keeps the bound. -/
theorem Memory.below_write (m : Memory α) {n i : Nat} (v : α) (h : Memory.below n m = true) (hi : i < n) :
    Memory.below n (m.write i v) = true := by
  simp only [Memory.below, List.all_eq_true, decide_eq_true_eq] at h ⊢
  intro e he
  rcases Memory.mem_write m i v e he with rfl | he
  · exact hi
  · exact h e he

/-- A burst of stores keeps the canonical form. -/
theorem Memory.wf_writeAll (stores : List (Nat × α)) (m : Memory α) (h : Memory.wf m = true) :
    Memory.wf (m.writeAll stores) = true := by
  induction stores generalizing m with
  | nil => exact h
  | cons st stores ih => exact ih _ (Memory.wf_write m _ _ h)

/-- A burst of stores inside the space keeps the bound. -/
theorem Memory.below_writeAll (stores : List (Nat × α)) (m : Memory α) {n : Nat} (h : Memory.below n m = true)
    (hs : ∀ st ∈ stores, st.1 < n) : Memory.below n (m.writeAll stores) = true := by
  induction stores generalizing m with
  | nil => exact h
  | cons st stores ih =>
    exact ih _ (Memory.below_write m _ h (hs st (by simp))) (fun q hq => hs q (List.mem_cons_of_mem _ hq))

/-- The entries of a memory after a burst. -/
theorem Memory.mem_writeAll (stores : List (Nat × α)) (m : Memory α) (e : Nat × α) (he : e ∈ m.writeAll stores) :
    e ∈ stores ∨ e ∈ m := by
  induction stores generalizing m with
  | nil => exact .inr he
  | cons st stores ih =>
    rcases ih _ he with h | h
    · exact .inl (List.mem_cons_of_mem _ h)
    · rcases Memory.mem_write m st.1 st.2 e h with rfl | h
      · exact .inl (by simp)
      · exact .inr h

/-- An element that no store of a burst names reads as before. -/
theorem Memory.read_writeAll_other (stores : List (Nat × α)) (m : Memory α) {j : Nat} (h : Memory.wf m = true)
    (hj : ∀ st ∈ stores, st.1 ≠ j) : Memory.read (m.writeAll stores) j = Memory.read m j := by
  induction stores generalizing m with
  | nil => rfl
  | cons st stores ih =>
    refine (ih _ (Memory.wf_write m _ _ h) fun q hq => hj q (List.mem_cons_of_mem _ hq)).trans ?_
    exact Memory.read_write_other m _ h (Ne.symm (hj st (by simp)))

/-- The last store of a burst to an element is what it reads as. -/
theorem Memory.read_writeAll_last (stores : List (Nat × α)) (m : Memory α) (j : Nat) (v : α) (h : Memory.wf m = true) :
    Memory.read (m.writeAll (stores ++ [(j, v)])) j = some v := by
  have : m.writeAll (stores ++ [(j, v)]) = (m.writeAll stores).write j v := by simp [Memory.writeAll]
  rw [this, Memory.read_write_same _ _ _ (Memory.wf_writeAll stores m h)]

theorem Memory.read_append (m l : Memory α) (i : Nat) :
    Memory.read (m ++ l) i = (Memory.read m i).or (Memory.read l i) := by
  induction m with
  | nil => rfl
  | cons e m ih =>
    obtain ⟨k, w⟩ := e
    simp only [List.cons_append, Memory.read]
    split_ifs <;> simp [ih]

theorem Memory.read_filter_ge (m : Memory α) (n i : Nat) :
    Memory.read (m.filter fun e => decide (n ≤ e.1)) i = if n ≤ i then Memory.read m i else none := by
  induction m with
  | nil => simp
  | cons e m ih =>
    obtain ⟨k, w⟩ := e
    by_cases hk : n ≤ k <;> simp only [List.filter_cons, hk, decide_true, decide_false, if_true] <;>
      simp only [Memory.read, Bool.false_eq_true, if_false, ih] <;> split_ifs <;> simp_all

theorem Memory.read_tabulate (n : Nat) (g : Nat → Option α) (i : Nat) :
    Memory.read ((List.range n).filterMap fun j => (g j).map fun v => (j, v)) i = if i < n then g i else none := by
  induction n with
  | zero => simp
  | succ n ih =>
    rw [List.range_succ, List.filterMap_append, Memory.read_append, ih]
    rcases Nat.lt_trichotomy i n with h | h | h
    · have hs : Memory.read (List.filterMap (fun j => (g j).map fun v => (j, v)) [n]) i = none := by
        cases hg : g n <;> simp [hg, Memory.read]; omega
      simp [h, hs, Nat.lt_succ_of_lt h]
    · subst h
      cases hg : g i <;> simp [hg, Memory.read]
    · have hs : Memory.read (List.filterMap (fun j => (g j).map fun v => (j, v)) [n]) i = none := by
        cases hg : g n <;> simp [hg, Memory.read]; omega
      simp [hs, Nat.not_lt.2 (Nat.le_of_lt h), show ¬ i < n + 1 by omega]

/-- A bulk store, read at one element. -/
theorem Memory.read_fill (n : Nat) (f : Nat → Option α) (m : Memory α) (i : Nat) :
    Memory.read (Memory.fill n f m) i = if i < n then (f i).or (Memory.read m i) else Memory.read m i := by
  rw [Memory.fill, Memory.read_append, Memory.read_tabulate n (fun i => (f i).or (Memory.read m i)) i,
    Memory.read_filter_ge]
  by_cases h : i < n
  · simp [h, show ¬ n ≤ i by omega]
  · simp [h, show n ≤ i by omega]

theorem Memory.wf_iff_pairwise (m : Memory α) : Memory.wf m = true ↔ m.Pairwise fun e d => e.1 < d.1 := by
  induction m with
  | nil => simp [Memory.wf]
  | cons e m ih =>
    obtain ⟨k, w⟩ := e
    simp [Memory.wf, ih, List.pairwise_cons]

/-- The entries of a memory after a bulk store. -/
theorem Memory.mem_fill (n : Nat) (f : Nat → Option α) (m : Memory α) (e : Nat × α) (he : e ∈ Memory.fill n f m) :
    (e.1 < n ∧ ((f e.1 = some e.2) ∨ (f e.1 = none ∧ Memory.read m e.1 = some e.2))) ∨ (n ≤ e.1 ∧ e ∈ m) := by
  simp only [Memory.fill, List.mem_append, List.mem_filterMap, List.mem_range, List.mem_filter, decide_eq_true_eq] at he
  rcases he with ⟨i, hi, h⟩ | ⟨h, hn⟩
  · left
    obtain ⟨v, hv, rfl⟩ := Option.map_eq_some_iff.1 h
    refine ⟨hi, ?_⟩
    cases hf : f i with
    | none => exact .inr ⟨rfl, by simpa [hf] using hv⟩
    | some w => exact .inl (by simpa [hf] using hv)
  · exact .inr ⟨hn, h⟩

theorem Memory.mem_of_read (m : Memory α) {i : Nat} {v : α} (h : Memory.read m i = some v) : (i, v) ∈ m := by
  induction m with
  | nil => simp at h
  | cons e m ih =>
    obtain ⟨k, w⟩ := e
    simp only [Memory.read] at h
    split_ifs at h with hk
    · simp_all
    · exact List.mem_cons_of_mem _ (ih h)

/-- A bulk store keeps the canonical form. -/
theorem Memory.wf_fill (n : Nat) (f : Nat → Option α) (m : Memory α) (h : Memory.wf m = true) :
    Memory.wf (Memory.fill n f m) = true := by
  rw [Memory.wf_iff_pairwise] at h ⊢
  rw [Memory.fill, List.pairwise_append]
  refine ⟨?_, h.filter _, ?_⟩
  · rw [List.pairwise_filterMap]
    refine List.pairwise_lt_range.imp fun {a b} hab => ?_
    intro c hc d hd
    obtain ⟨_, _, rfl⟩ := Option.map_eq_some_iff.1 hc
    obtain ⟨_, _, rfl⟩ := Option.map_eq_some_iff.1 hd
    exact hab
  · intro c hc d hd
    obtain ⟨i, hi, h⟩ := List.mem_filterMap.1 hc
    obtain ⟨_, _, rfl⟩ := Option.map_eq_some_iff.1 h
    have := (List.mem_filter.1 hd).2
    simp only [decide_eq_true_eq] at this
    exact lt_of_lt_of_le (List.mem_range.1 hi) this

/-- A bulk store within the space keeps the bound. -/
theorem Memory.below_fill {n k : Nat} (f : Nat → Option α) (m : Memory α) (h : Memory.below k m = true) (hn : n ≤ k) :
    Memory.below k (Memory.fill n f m) = true := by
  simp only [Memory.below, List.all_eq_true, decide_eq_true_eq] at h ⊢
  intro e he
  rcases Memory.mem_fill n f m e he with ⟨hlt, _⟩ | ⟨_, hm⟩
  · omega
  · exact h e hm

end Sys2Proof.Machine
end

