-- ==== Sys2Proof/Laws/State.lean ====
section
/-! SUPPORT. What each named update of State leaves in place, field by field (one simp rule a field), and what it puts
into the fields it writes. -/

namespace Sys2Proof.Machine

/-- FB[k] replaced: everything but the framebuffers stays. -/
@[simp] theorem State.setFb_fields (s : State) (k : FbIndex) (m : Memory Pixel) :
    (s.setFb k m).drawIndex = s.drawIndex ∧ (s.setFb k m).frameReady = s.frameReady
    ∧ (s.setFb k m).doubleBufferEnabled = s.doubleBufferEnabled
    ∧ (s.setFb k m).refreshCounter = s.refreshCounter ∧ (s.setFb k m).visibleIndex = s.visibleIndex
    ∧ (s.setFb k m).lcdAddr = s.lcdAddr ∧ (s.setFb k m).refreshIrqEnabled = s.refreshIrqEnabled
    ∧ (s.setFb k m).refreshArmed = s.refreshArmed ∧ (s.setFb k m).bseBusy = s.bseBusy
    ∧ (s.setFb k m).bseDone = s.bseDone ∧ (s.setFb k m).bseT0 = s.bseT0 ∧ (s.setFb k m).bseDst = s.bseDst
    ∧ (s.setFb k m).bseTaint = s.bseTaint ∧ (s.setFb k m).srcClean = s.srcClean
    ∧ (s.setFb k m).clutHw = s.clutHw ∧ (s.setFb k m).clutValid = s.clutValid
    ∧ (s.setFb k m).palBusy = s.palBusy ∧ (s.setFb k m).palDone = s.palDone
    ∧ (s.setFb k m).palErr = s.palErr ∧ (s.setFb k m).palT0 = s.palT0
    ∧ (s.setFb k m).clutClean = s.clutClean ∧ (s.setFb k m).palTaint = s.palTaint
    ∧ (s.setFb k m).ringBuf = s.ringBuf ∧ (s.setFb k m).ringHead = s.ringHead
    ∧ (s.setFb k m).ringCount = s.ringCount ∧ (s.setFb k m).keytab = s.keytab
    ∧ (s.setFb k m).engineProgressCounter = s.engineProgressCounter
    ∧ (s.setFb k m).lmProgSeen = s.lmProgSeen ∧ (s.setFb k m).lmProgTs = s.lmProgTs
    ∧ (s.setFb k m).lmRefSeen = s.lmRefSeen ∧ (s.setFb k m).lmRefTs = s.lmRefTs
    ∧ (s.setFb k m).resetPending = s.resetPending ∧ (s.setFb k m).sysState = s.sysState
    ∧ (s.setFb k m).alreadyFailed = s.alreadyFailed ∧ (s.setFb k m).fatalCause = s.fatalCause
    ∧ (s.setFb k m).fgHold = s.fgHold ∧ (s.setFb k m).now = s.now ∧ (s.setFb k m).indicator = s.indicator
    ∧ (s.setFb k m).lcdOut = s.lcdOut ∧ (s.setFb k m).serialOut = s.serialOut
    ∧ (s.setFb k m).resetReq = s.resetReq ∧ (s.setFb k m).rsp = s.rsp ∧ (s.setFb k m).srcCpu = s.srcCpu
    ∧ (s.setFb k m).srcMem = s.srcMem ∧ (s.setFb k m).scratchCpu = s.scratchCpu
    ∧ (s.setFb k m).scratchMem = s.scratchMem ∧ (s.setFb k m).palIn = s.palIn
    ∧ (s.setFb k m).clutCpu = s.clutCpu ∧ (s.setFb k m).clutMem = s.clutMem ∧ (s.setFb k m).board = s.board
    ∧ (s.setFb k m).trace = s.trace ∧ (s.setFb k m).draws = s.draws := by
  unfold State.setFb
  split <;> (repeat' constructor)

/-- XSRC.mem replaced: everything but the two `mem` views of the source spaces stays. -/
@[simp] theorem State.setXsrcMem_fields (s : State) (m : Memory Byte) :
    (s.setXsrcMem m).drawIndex = s.drawIndex ∧ (s.setXsrcMem m).frameReady = s.frameReady
    ∧ (s.setXsrcMem m).doubleBufferEnabled = s.doubleBufferEnabled
    ∧ (s.setXsrcMem m).refreshCounter = s.refreshCounter ∧ (s.setXsrcMem m).visibleIndex = s.visibleIndex
    ∧ (s.setXsrcMem m).lcdAddr = s.lcdAddr ∧ (s.setXsrcMem m).refreshIrqEnabled = s.refreshIrqEnabled
    ∧ (s.setXsrcMem m).refreshArmed = s.refreshArmed ∧ (s.setXsrcMem m).bseBusy = s.bseBusy
    ∧ (s.setXsrcMem m).bseDone = s.bseDone ∧ (s.setXsrcMem m).bseT0 = s.bseT0
    ∧ (s.setXsrcMem m).bseDst = s.bseDst ∧ (s.setXsrcMem m).bseTaint = s.bseTaint
    ∧ (s.setXsrcMem m).srcClean = s.srcClean ∧ (s.setXsrcMem m).clutHw = s.clutHw
    ∧ (s.setXsrcMem m).clutValid = s.clutValid ∧ (s.setXsrcMem m).palBusy = s.palBusy
    ∧ (s.setXsrcMem m).palDone = s.palDone ∧ (s.setXsrcMem m).palErr = s.palErr
    ∧ (s.setXsrcMem m).palT0 = s.palT0 ∧ (s.setXsrcMem m).clutClean = s.clutClean
    ∧ (s.setXsrcMem m).palTaint = s.palTaint ∧ (s.setXsrcMem m).ringBuf = s.ringBuf
    ∧ (s.setXsrcMem m).ringHead = s.ringHead ∧ (s.setXsrcMem m).ringCount = s.ringCount
    ∧ (s.setXsrcMem m).keytab = s.keytab ∧ (s.setXsrcMem m).engineProgressCounter = s.engineProgressCounter
    ∧ (s.setXsrcMem m).lmProgSeen = s.lmProgSeen ∧ (s.setXsrcMem m).lmProgTs = s.lmProgTs
    ∧ (s.setXsrcMem m).lmRefSeen = s.lmRefSeen ∧ (s.setXsrcMem m).lmRefTs = s.lmRefTs
    ∧ (s.setXsrcMem m).resetPending = s.resetPending ∧ (s.setXsrcMem m).sysState = s.sysState
    ∧ (s.setXsrcMem m).alreadyFailed = s.alreadyFailed ∧ (s.setXsrcMem m).fatalCause = s.fatalCause
    ∧ (s.setXsrcMem m).fgHold = s.fgHold ∧ (s.setXsrcMem m).now = s.now
    ∧ (s.setXsrcMem m).indicator = s.indicator ∧ (s.setXsrcMem m).lcdOut = s.lcdOut
    ∧ (s.setXsrcMem m).serialOut = s.serialOut ∧ (s.setXsrcMem m).resetReq = s.resetReq
    ∧ (s.setXsrcMem m).rsp = s.rsp ∧ (s.setXsrcMem m).fb0 = s.fb0 ∧ (s.setXsrcMem m).fb1 = s.fb1
    ∧ (s.setXsrcMem m).srcCpu = s.srcCpu ∧ (s.setXsrcMem m).scratchCpu = s.scratchCpu
    ∧ (s.setXsrcMem m).palIn = s.palIn ∧ (s.setXsrcMem m).clutCpu = s.clutCpu
    ∧ (s.setXsrcMem m).clutMem = s.clutMem ∧ (s.setXsrcMem m).board = s.board
    ∧ (s.setXsrcMem m).trace = s.trace ∧ (s.setXsrcMem m).draws = s.draws := by
  unfold State.setXsrcMem
  split <;> (repeat' constructor)

/-- A KEYTAB entry replaced: everything but KEYTAB stays. -/
@[simp] theorem State.setKey_fields (s : State) (k : Byte) (e : KeyEntry) :
    (s.setKey k e).drawIndex = s.drawIndex ∧ (s.setKey k e).frameReady = s.frameReady
    ∧ (s.setKey k e).doubleBufferEnabled = s.doubleBufferEnabled
    ∧ (s.setKey k e).refreshCounter = s.refreshCounter ∧ (s.setKey k e).visibleIndex = s.visibleIndex
    ∧ (s.setKey k e).lcdAddr = s.lcdAddr ∧ (s.setKey k e).refreshIrqEnabled = s.refreshIrqEnabled
    ∧ (s.setKey k e).refreshArmed = s.refreshArmed ∧ (s.setKey k e).bseBusy = s.bseBusy
    ∧ (s.setKey k e).bseDone = s.bseDone ∧ (s.setKey k e).bseT0 = s.bseT0 ∧ (s.setKey k e).bseDst = s.bseDst
    ∧ (s.setKey k e).bseTaint = s.bseTaint ∧ (s.setKey k e).srcClean = s.srcClean
    ∧ (s.setKey k e).clutHw = s.clutHw ∧ (s.setKey k e).clutValid = s.clutValid
    ∧ (s.setKey k e).palBusy = s.palBusy ∧ (s.setKey k e).palDone = s.palDone
    ∧ (s.setKey k e).palErr = s.palErr ∧ (s.setKey k e).palT0 = s.palT0
    ∧ (s.setKey k e).clutClean = s.clutClean ∧ (s.setKey k e).palTaint = s.palTaint
    ∧ (s.setKey k e).ringBuf = s.ringBuf ∧ (s.setKey k e).ringHead = s.ringHead
    ∧ (s.setKey k e).ringCount = s.ringCount
    ∧ (s.setKey k e).engineProgressCounter = s.engineProgressCounter
    ∧ (s.setKey k e).lmProgSeen = s.lmProgSeen ∧ (s.setKey k e).lmProgTs = s.lmProgTs
    ∧ (s.setKey k e).lmRefSeen = s.lmRefSeen ∧ (s.setKey k e).lmRefTs = s.lmRefTs
    ∧ (s.setKey k e).resetPending = s.resetPending ∧ (s.setKey k e).sysState = s.sysState
    ∧ (s.setKey k e).alreadyFailed = s.alreadyFailed ∧ (s.setKey k e).fatalCause = s.fatalCause
    ∧ (s.setKey k e).fgHold = s.fgHold ∧ (s.setKey k e).now = s.now ∧ (s.setKey k e).indicator = s.indicator
    ∧ (s.setKey k e).lcdOut = s.lcdOut ∧ (s.setKey k e).serialOut = s.serialOut
    ∧ (s.setKey k e).resetReq = s.resetReq ∧ (s.setKey k e).rsp = s.rsp ∧ (s.setKey k e).fb0 = s.fb0
    ∧ (s.setKey k e).fb1 = s.fb1 ∧ (s.setKey k e).srcCpu = s.srcCpu ∧ (s.setKey k e).srcMem = s.srcMem
    ∧ (s.setKey k e).scratchCpu = s.scratchCpu ∧ (s.setKey k e).scratchMem = s.scratchMem
    ∧ (s.setKey k e).palIn = s.palIn ∧ (s.setKey k e).clutCpu = s.clutCpu
    ∧ (s.setKey k e).clutMem = s.clutMem ∧ (s.setKey k e).board = s.board ∧ (s.setKey k e).trace = s.trace
    ∧ (s.setKey k e).draws = s.draws := by
  repeat' constructor

/-- A draw made: everything but the count of draws stays. -/
@[simp] theorem State.drew_fields (s : State) :
    (s.drew).drawIndex = s.drawIndex ∧ (s.drew).frameReady = s.frameReady
    ∧ (s.drew).doubleBufferEnabled = s.doubleBufferEnabled ∧ (s.drew).refreshCounter = s.refreshCounter
    ∧ (s.drew).visibleIndex = s.visibleIndex ∧ (s.drew).lcdAddr = s.lcdAddr
    ∧ (s.drew).refreshIrqEnabled = s.refreshIrqEnabled ∧ (s.drew).refreshArmed = s.refreshArmed
    ∧ (s.drew).bseBusy = s.bseBusy ∧ (s.drew).bseDone = s.bseDone ∧ (s.drew).bseT0 = s.bseT0
    ∧ (s.drew).bseDst = s.bseDst ∧ (s.drew).bseTaint = s.bseTaint ∧ (s.drew).srcClean = s.srcClean
    ∧ (s.drew).clutHw = s.clutHw ∧ (s.drew).clutValid = s.clutValid ∧ (s.drew).palBusy = s.palBusy
    ∧ (s.drew).palDone = s.palDone ∧ (s.drew).palErr = s.palErr ∧ (s.drew).palT0 = s.palT0
    ∧ (s.drew).clutClean = s.clutClean ∧ (s.drew).palTaint = s.palTaint ∧ (s.drew).ringBuf = s.ringBuf
    ∧ (s.drew).ringHead = s.ringHead ∧ (s.drew).ringCount = s.ringCount ∧ (s.drew).keytab = s.keytab
    ∧ (s.drew).engineProgressCounter = s.engineProgressCounter ∧ (s.drew).lmProgSeen = s.lmProgSeen
    ∧ (s.drew).lmProgTs = s.lmProgTs ∧ (s.drew).lmRefSeen = s.lmRefSeen ∧ (s.drew).lmRefTs = s.lmRefTs
    ∧ (s.drew).resetPending = s.resetPending ∧ (s.drew).sysState = s.sysState
    ∧ (s.drew).alreadyFailed = s.alreadyFailed ∧ (s.drew).fatalCause = s.fatalCause
    ∧ (s.drew).fgHold = s.fgHold ∧ (s.drew).now = s.now ∧ (s.drew).indicator = s.indicator
    ∧ (s.drew).lcdOut = s.lcdOut ∧ (s.drew).serialOut = s.serialOut ∧ (s.drew).resetReq = s.resetReq
    ∧ (s.drew).rsp = s.rsp ∧ (s.drew).fb0 = s.fb0 ∧ (s.drew).fb1 = s.fb1 ∧ (s.drew).srcCpu = s.srcCpu
    ∧ (s.drew).srcMem = s.srcMem ∧ (s.drew).scratchCpu = s.scratchCpu ∧ (s.drew).scratchMem = s.scratchMem
    ∧ (s.drew).palIn = s.palIn ∧ (s.drew).clutCpu = s.clutCpu ∧ (s.drew).clutMem = s.clutMem
    ∧ (s.drew).board = s.board ∧ (s.drew).trace = s.trace := by
  repeat' constructor

/-- FB[k] displayed: everything but the display's registers stays. -/
@[simp] theorem State.display_fields (s : State) (k : FbIndex) :
    (s.display k).drawIndex = s.drawIndex ∧ (s.display k).frameReady = s.frameReady
    ∧ (s.display k).doubleBufferEnabled = s.doubleBufferEnabled
    ∧ (s.display k).refreshCounter = s.refreshCounter
    ∧ (s.display k).refreshIrqEnabled = s.refreshIrqEnabled ∧ (s.display k).refreshArmed = s.refreshArmed
    ∧ (s.display k).bseBusy = s.bseBusy ∧ (s.display k).bseDone = s.bseDone ∧ (s.display k).bseT0 = s.bseT0
    ∧ (s.display k).bseDst = s.bseDst ∧ (s.display k).bseTaint = s.bseTaint
    ∧ (s.display k).srcClean = s.srcClean ∧ (s.display k).clutHw = s.clutHw
    ∧ (s.display k).clutValid = s.clutValid ∧ (s.display k).palBusy = s.palBusy
    ∧ (s.display k).palDone = s.palDone ∧ (s.display k).palErr = s.palErr ∧ (s.display k).palT0 = s.palT0
    ∧ (s.display k).clutClean = s.clutClean ∧ (s.display k).palTaint = s.palTaint
    ∧ (s.display k).ringBuf = s.ringBuf ∧ (s.display k).ringHead = s.ringHead
    ∧ (s.display k).ringCount = s.ringCount ∧ (s.display k).keytab = s.keytab
    ∧ (s.display k).engineProgressCounter = s.engineProgressCounter
    ∧ (s.display k).lmProgSeen = s.lmProgSeen ∧ (s.display k).lmProgTs = s.lmProgTs
    ∧ (s.display k).lmRefSeen = s.lmRefSeen ∧ (s.display k).lmRefTs = s.lmRefTs
    ∧ (s.display k).resetPending = s.resetPending ∧ (s.display k).sysState = s.sysState
    ∧ (s.display k).alreadyFailed = s.alreadyFailed ∧ (s.display k).fatalCause = s.fatalCause
    ∧ (s.display k).fgHold = s.fgHold ∧ (s.display k).now = s.now ∧ (s.display k).indicator = s.indicator
    ∧ (s.display k).serialOut = s.serialOut ∧ (s.display k).resetReq = s.resetReq
    ∧ (s.display k).rsp = s.rsp ∧ (s.display k).fb0 = s.fb0 ∧ (s.display k).fb1 = s.fb1
    ∧ (s.display k).srcCpu = s.srcCpu ∧ (s.display k).srcMem = s.srcMem
    ∧ (s.display k).scratchCpu = s.scratchCpu ∧ (s.display k).scratchMem = s.scratchMem
    ∧ (s.display k).palIn = s.palIn ∧ (s.display k).clutCpu = s.clutCpu ∧ (s.display k).clutMem = s.clutMem
    ∧ (s.display k).board = s.board ∧ (s.display k).trace = s.trace ∧ (s.display k).draws = s.draws := by
  repeat' constructor

/-- A pop: everything but the ring's head and count stays. -/
@[simp] theorem State.popped_fields (s : State) :
    (s.popped).drawIndex = s.drawIndex ∧ (s.popped).frameReady = s.frameReady
    ∧ (s.popped).doubleBufferEnabled = s.doubleBufferEnabled ∧ (s.popped).refreshCounter = s.refreshCounter
    ∧ (s.popped).visibleIndex = s.visibleIndex ∧ (s.popped).lcdAddr = s.lcdAddr
    ∧ (s.popped).refreshIrqEnabled = s.refreshIrqEnabled ∧ (s.popped).refreshArmed = s.refreshArmed
    ∧ (s.popped).bseBusy = s.bseBusy ∧ (s.popped).bseDone = s.bseDone ∧ (s.popped).bseT0 = s.bseT0
    ∧ (s.popped).bseDst = s.bseDst ∧ (s.popped).bseTaint = s.bseTaint ∧ (s.popped).srcClean = s.srcClean
    ∧ (s.popped).clutHw = s.clutHw ∧ (s.popped).clutValid = s.clutValid ∧ (s.popped).palBusy = s.palBusy
    ∧ (s.popped).palDone = s.palDone ∧ (s.popped).palErr = s.palErr ∧ (s.popped).palT0 = s.palT0
    ∧ (s.popped).clutClean = s.clutClean ∧ (s.popped).palTaint = s.palTaint ∧ (s.popped).ringBuf = s.ringBuf
    ∧ (s.popped).keytab = s.keytab ∧ (s.popped).engineProgressCounter = s.engineProgressCounter
    ∧ (s.popped).lmProgSeen = s.lmProgSeen ∧ (s.popped).lmProgTs = s.lmProgTs
    ∧ (s.popped).lmRefSeen = s.lmRefSeen ∧ (s.popped).lmRefTs = s.lmRefTs
    ∧ (s.popped).resetPending = s.resetPending ∧ (s.popped).sysState = s.sysState
    ∧ (s.popped).alreadyFailed = s.alreadyFailed ∧ (s.popped).fatalCause = s.fatalCause
    ∧ (s.popped).fgHold = s.fgHold ∧ (s.popped).now = s.now ∧ (s.popped).indicator = s.indicator
    ∧ (s.popped).lcdOut = s.lcdOut ∧ (s.popped).serialOut = s.serialOut ∧ (s.popped).resetReq = s.resetReq
    ∧ (s.popped).rsp = s.rsp ∧ (s.popped).fb0 = s.fb0 ∧ (s.popped).fb1 = s.fb1
    ∧ (s.popped).srcCpu = s.srcCpu ∧ (s.popped).srcMem = s.srcMem ∧ (s.popped).scratchCpu = s.scratchCpu
    ∧ (s.popped).scratchMem = s.scratchMem ∧ (s.popped).palIn = s.palIn ∧ (s.popped).clutCpu = s.clutCpu
    ∧ (s.popped).clutMem = s.clutMem ∧ (s.popped).board = s.board ∧ (s.popped).trace = s.trace
    ∧ (s.popped).draws = s.draws := by
  repeat' constructor

/-- A push: everything but the ring's buffer and count stays. -/
@[simp] theorem State.pushByte_fields (s : State) (b : Byte) :
    (s.pushByte b).drawIndex = s.drawIndex ∧ (s.pushByte b).frameReady = s.frameReady
    ∧ (s.pushByte b).doubleBufferEnabled = s.doubleBufferEnabled
    ∧ (s.pushByte b).refreshCounter = s.refreshCounter ∧ (s.pushByte b).visibleIndex = s.visibleIndex
    ∧ (s.pushByte b).lcdAddr = s.lcdAddr ∧ (s.pushByte b).refreshIrqEnabled = s.refreshIrqEnabled
    ∧ (s.pushByte b).refreshArmed = s.refreshArmed ∧ (s.pushByte b).bseBusy = s.bseBusy
    ∧ (s.pushByte b).bseDone = s.bseDone ∧ (s.pushByte b).bseT0 = s.bseT0 ∧ (s.pushByte b).bseDst = s.bseDst
    ∧ (s.pushByte b).bseTaint = s.bseTaint ∧ (s.pushByte b).srcClean = s.srcClean
    ∧ (s.pushByte b).clutHw = s.clutHw ∧ (s.pushByte b).clutValid = s.clutValid
    ∧ (s.pushByte b).palBusy = s.palBusy ∧ (s.pushByte b).palDone = s.palDone
    ∧ (s.pushByte b).palErr = s.palErr ∧ (s.pushByte b).palT0 = s.palT0
    ∧ (s.pushByte b).clutClean = s.clutClean ∧ (s.pushByte b).palTaint = s.palTaint
    ∧ (s.pushByte b).ringHead = s.ringHead ∧ (s.pushByte b).keytab = s.keytab
    ∧ (s.pushByte b).engineProgressCounter = s.engineProgressCounter
    ∧ (s.pushByte b).lmProgSeen = s.lmProgSeen ∧ (s.pushByte b).lmProgTs = s.lmProgTs
    ∧ (s.pushByte b).lmRefSeen = s.lmRefSeen ∧ (s.pushByte b).lmRefTs = s.lmRefTs
    ∧ (s.pushByte b).resetPending = s.resetPending ∧ (s.pushByte b).sysState = s.sysState
    ∧ (s.pushByte b).alreadyFailed = s.alreadyFailed ∧ (s.pushByte b).fatalCause = s.fatalCause
    ∧ (s.pushByte b).fgHold = s.fgHold ∧ (s.pushByte b).now = s.now ∧ (s.pushByte b).indicator = s.indicator
    ∧ (s.pushByte b).lcdOut = s.lcdOut ∧ (s.pushByte b).serialOut = s.serialOut
    ∧ (s.pushByte b).resetReq = s.resetReq ∧ (s.pushByte b).rsp = s.rsp ∧ (s.pushByte b).fb0 = s.fb0
    ∧ (s.pushByte b).fb1 = s.fb1 ∧ (s.pushByte b).srcCpu = s.srcCpu ∧ (s.pushByte b).srcMem = s.srcMem
    ∧ (s.pushByte b).scratchCpu = s.scratchCpu ∧ (s.pushByte b).scratchMem = s.scratchMem
    ∧ (s.pushByte b).palIn = s.palIn ∧ (s.pushByte b).clutCpu = s.clutCpu
    ∧ (s.pushByte b).clutMem = s.clutMem ∧ (s.pushByte b).board = s.board ∧ (s.pushByte b).trace = s.trace
    ∧ (s.pushByte b).draws = s.draws := by
  unfold State.pushByte
  split <;> (repeat' constructor)

/-- A store into XSRC: everything but the two ghost registers stays. -/
@[simp] theorem State.storedXsrc_fields (s : State) :
    (s.storedXsrc).drawIndex = s.drawIndex ∧ (s.storedXsrc).frameReady = s.frameReady
    ∧ (s.storedXsrc).doubleBufferEnabled = s.doubleBufferEnabled
    ∧ (s.storedXsrc).refreshCounter = s.refreshCounter ∧ (s.storedXsrc).visibleIndex = s.visibleIndex
    ∧ (s.storedXsrc).lcdAddr = s.lcdAddr ∧ (s.storedXsrc).refreshIrqEnabled = s.refreshIrqEnabled
    ∧ (s.storedXsrc).refreshArmed = s.refreshArmed ∧ (s.storedXsrc).bseBusy = s.bseBusy
    ∧ (s.storedXsrc).bseDone = s.bseDone ∧ (s.storedXsrc).bseT0 = s.bseT0 ∧ (s.storedXsrc).bseDst = s.bseDst
    ∧ (s.storedXsrc).clutHw = s.clutHw ∧ (s.storedXsrc).clutValid = s.clutValid
    ∧ (s.storedXsrc).palBusy = s.palBusy ∧ (s.storedXsrc).palDone = s.palDone
    ∧ (s.storedXsrc).palErr = s.palErr ∧ (s.storedXsrc).palT0 = s.palT0
    ∧ (s.storedXsrc).clutClean = s.clutClean ∧ (s.storedXsrc).palTaint = s.palTaint
    ∧ (s.storedXsrc).ringBuf = s.ringBuf ∧ (s.storedXsrc).ringHead = s.ringHead
    ∧ (s.storedXsrc).ringCount = s.ringCount ∧ (s.storedXsrc).keytab = s.keytab
    ∧ (s.storedXsrc).engineProgressCounter = s.engineProgressCounter
    ∧ (s.storedXsrc).lmProgSeen = s.lmProgSeen ∧ (s.storedXsrc).lmProgTs = s.lmProgTs
    ∧ (s.storedXsrc).lmRefSeen = s.lmRefSeen ∧ (s.storedXsrc).lmRefTs = s.lmRefTs
    ∧ (s.storedXsrc).resetPending = s.resetPending ∧ (s.storedXsrc).sysState = s.sysState
    ∧ (s.storedXsrc).alreadyFailed = s.alreadyFailed ∧ (s.storedXsrc).fatalCause = s.fatalCause
    ∧ (s.storedXsrc).fgHold = s.fgHold ∧ (s.storedXsrc).now = s.now ∧ (s.storedXsrc).indicator = s.indicator
    ∧ (s.storedXsrc).lcdOut = s.lcdOut ∧ (s.storedXsrc).serialOut = s.serialOut
    ∧ (s.storedXsrc).resetReq = s.resetReq ∧ (s.storedXsrc).rsp = s.rsp ∧ (s.storedXsrc).fb0 = s.fb0
    ∧ (s.storedXsrc).fb1 = s.fb1 ∧ (s.storedXsrc).srcCpu = s.srcCpu ∧ (s.storedXsrc).srcMem = s.srcMem
    ∧ (s.storedXsrc).scratchCpu = s.scratchCpu ∧ (s.storedXsrc).scratchMem = s.scratchMem
    ∧ (s.storedXsrc).palIn = s.palIn ∧ (s.storedXsrc).clutCpu = s.clutCpu
    ∧ (s.storedXsrc).clutMem = s.clutMem ∧ (s.storedXsrc).board = s.board ∧ (s.storedXsrc).trace = s.trace
    ∧ (s.storedXsrc).draws = s.draws := by
  repeat' constructor

/-- A store into SRC: everything but the two ghost registers stays. -/
@[simp] theorem State.storedSrc_fields (s : State) :
    (s.storedSrc).drawIndex = s.drawIndex ∧ (s.storedSrc).frameReady = s.frameReady
    ∧ (s.storedSrc).doubleBufferEnabled = s.doubleBufferEnabled
    ∧ (s.storedSrc).refreshCounter = s.refreshCounter ∧ (s.storedSrc).visibleIndex = s.visibleIndex
    ∧ (s.storedSrc).lcdAddr = s.lcdAddr ∧ (s.storedSrc).refreshIrqEnabled = s.refreshIrqEnabled
    ∧ (s.storedSrc).refreshArmed = s.refreshArmed ∧ (s.storedSrc).bseBusy = s.bseBusy
    ∧ (s.storedSrc).bseDone = s.bseDone ∧ (s.storedSrc).bseT0 = s.bseT0 ∧ (s.storedSrc).bseDst = s.bseDst
    ∧ (s.storedSrc).clutHw = s.clutHw ∧ (s.storedSrc).clutValid = s.clutValid
    ∧ (s.storedSrc).palBusy = s.palBusy ∧ (s.storedSrc).palDone = s.palDone
    ∧ (s.storedSrc).palErr = s.palErr ∧ (s.storedSrc).palT0 = s.palT0
    ∧ (s.storedSrc).clutClean = s.clutClean ∧ (s.storedSrc).palTaint = s.palTaint
    ∧ (s.storedSrc).ringBuf = s.ringBuf ∧ (s.storedSrc).ringHead = s.ringHead
    ∧ (s.storedSrc).ringCount = s.ringCount ∧ (s.storedSrc).keytab = s.keytab
    ∧ (s.storedSrc).engineProgressCounter = s.engineProgressCounter
    ∧ (s.storedSrc).lmProgSeen = s.lmProgSeen ∧ (s.storedSrc).lmProgTs = s.lmProgTs
    ∧ (s.storedSrc).lmRefSeen = s.lmRefSeen ∧ (s.storedSrc).lmRefTs = s.lmRefTs
    ∧ (s.storedSrc).resetPending = s.resetPending ∧ (s.storedSrc).sysState = s.sysState
    ∧ (s.storedSrc).alreadyFailed = s.alreadyFailed ∧ (s.storedSrc).fatalCause = s.fatalCause
    ∧ (s.storedSrc).fgHold = s.fgHold ∧ (s.storedSrc).now = s.now ∧ (s.storedSrc).indicator = s.indicator
    ∧ (s.storedSrc).lcdOut = s.lcdOut ∧ (s.storedSrc).serialOut = s.serialOut
    ∧ (s.storedSrc).resetReq = s.resetReq ∧ (s.storedSrc).rsp = s.rsp ∧ (s.storedSrc).fb0 = s.fb0
    ∧ (s.storedSrc).fb1 = s.fb1 ∧ (s.storedSrc).srcCpu = s.srcCpu ∧ (s.storedSrc).srcMem = s.srcMem
    ∧ (s.storedSrc).scratchCpu = s.scratchCpu ∧ (s.storedSrc).scratchMem = s.scratchMem
    ∧ (s.storedSrc).palIn = s.palIn ∧ (s.storedSrc).clutCpu = s.clutCpu ∧ (s.storedSrc).clutMem = s.clutMem
    ∧ (s.storedSrc).board = s.board ∧ (s.storedSrc).trace = s.trace ∧ (s.storedSrc).draws = s.draws := by
  unfold State.storedSrc
  split <;> (repeat' constructor)

/-- A response: everything but RSP and the count of draws stays. -/
@[simp] theorem State.respond_fields (s : State) (v : Nat) :
    (s.respond v).drawIndex = s.drawIndex ∧ (s.respond v).frameReady = s.frameReady
    ∧ (s.respond v).doubleBufferEnabled = s.doubleBufferEnabled
    ∧ (s.respond v).refreshCounter = s.refreshCounter ∧ (s.respond v).visibleIndex = s.visibleIndex
    ∧ (s.respond v).lcdAddr = s.lcdAddr ∧ (s.respond v).refreshIrqEnabled = s.refreshIrqEnabled
    ∧ (s.respond v).refreshArmed = s.refreshArmed ∧ (s.respond v).bseBusy = s.bseBusy
    ∧ (s.respond v).bseDone = s.bseDone ∧ (s.respond v).bseT0 = s.bseT0 ∧ (s.respond v).bseDst = s.bseDst
    ∧ (s.respond v).bseTaint = s.bseTaint ∧ (s.respond v).srcClean = s.srcClean
    ∧ (s.respond v).clutHw = s.clutHw ∧ (s.respond v).clutValid = s.clutValid
    ∧ (s.respond v).palBusy = s.palBusy ∧ (s.respond v).palDone = s.palDone
    ∧ (s.respond v).palErr = s.palErr ∧ (s.respond v).palT0 = s.palT0
    ∧ (s.respond v).clutClean = s.clutClean ∧ (s.respond v).palTaint = s.palTaint
    ∧ (s.respond v).ringBuf = s.ringBuf ∧ (s.respond v).ringHead = s.ringHead
    ∧ (s.respond v).ringCount = s.ringCount ∧ (s.respond v).keytab = s.keytab
    ∧ (s.respond v).engineProgressCounter = s.engineProgressCounter
    ∧ (s.respond v).lmProgSeen = s.lmProgSeen ∧ (s.respond v).lmProgTs = s.lmProgTs
    ∧ (s.respond v).lmRefSeen = s.lmRefSeen ∧ (s.respond v).lmRefTs = s.lmRefTs
    ∧ (s.respond v).resetPending = s.resetPending ∧ (s.respond v).sysState = s.sysState
    ∧ (s.respond v).alreadyFailed = s.alreadyFailed ∧ (s.respond v).fatalCause = s.fatalCause
    ∧ (s.respond v).fgHold = s.fgHold ∧ (s.respond v).now = s.now ∧ (s.respond v).indicator = s.indicator
    ∧ (s.respond v).lcdOut = s.lcdOut ∧ (s.respond v).serialOut = s.serialOut
    ∧ (s.respond v).resetReq = s.resetReq ∧ (s.respond v).fb0 = s.fb0 ∧ (s.respond v).fb1 = s.fb1
    ∧ (s.respond v).srcCpu = s.srcCpu ∧ (s.respond v).srcMem = s.srcMem
    ∧ (s.respond v).scratchCpu = s.scratchCpu ∧ (s.respond v).scratchMem = s.scratchMem
    ∧ (s.respond v).palIn = s.palIn ∧ (s.respond v).clutCpu = s.clutCpu ∧ (s.respond v).clutMem = s.clutMem
    ∧ (s.respond v).board = s.board ∧ (s.respond v).trace = s.trace := by
  unfold State.respond
  split <;> (repeat' constructor)

theorem State.setFb_fb (s : State) (k : FbIndex) (m : Memory Pixel) : (s.setFb k m).fb k = m := by
  unfold State.setFb State.fb
  split <;> simp_all

theorem State.setFb_fb_other (s : State) {k j : FbIndex} (h : j ≠ k) (m : Memory Pixel) :
    (s.setFb k m).fb j = s.fb j := by
  fin_cases k <;> fin_cases j <;> simp_all [State.setFb, State.fb]

@[simp] theorem State.drew_draws (s : State) : s.drew.draws = s.draws + 1 := rfl

@[simp] theorem State.display_lcdAddr (s : State) (k : FbIndex) : (s.display k).lcdAddr = s.board.fbAddr k := rfl

@[simp] theorem State.display_visibleIndex (s : State) (k : FbIndex) : (s.display k).visibleIndex = k := rfl

@[simp] theorem State.display_lcdOut (s : State) (k : FbIndex) :
    (s.display k).lcdOut = s.lcdOut ++ [.reload (s.board.fbAddr k)] := rfl

theorem State.setKey_key (s : State) (k : Byte) (e : KeyEntry) : (s.setKey k e).key k = e := by
  simp [State.setKey, State.key]

theorem State.setKey_key_other (s : State) {k j : Byte} (h : j ≠ k) (e : KeyEntry) :
    (s.setKey k e).key j = s.key j := by
  have hne : k.toNat ≠ j.toNat := fun hc => h (BitVec.eq_of_toNat_eq hc.symm)
  simp [State.setKey, State.key, hne]

/-- A response that fits 32 bits. -/
theorem State.respond_fits (s : State) {v : Nat} (h : v < 2 ^ 32) : s.respond v = { s with rsp := BitVec.ofNat 32 v } := by
  simp only [State.respond, h, if_true]

end Sys2Proof.Machine
end

