-- ==== Sys2Proof/Laws/Ops.lean ====
section
/-! SUPPORT. One law for each shared operation of Machine/Ops.lean: what it can do, and what it leaves. -/

namespace Sys2Proof.Machine

/-! ## Guards -/

/-- An FG operation answers a next state exactly where FG may issue it and its body does. -/
theorem withFg_next {s t : State} {o : Outcome} : withFg s o = .next t ↔ s.FgEnabled ∧ o = .next t := by
  unfold withFg
  split
  · exact ⟨fun e => ⟨‹_›, e⟩, And.right⟩
  · exact ⟨fun e => (nomatch e), fun e => absurd e.1 ‹_›⟩

theorem withFg_enabled {s : State} (h : s.FgEnabled) (o : Outcome) : withFg s o = o := if_pos h

theorem withFg_refused {s : State} (h : ¬ s.FgEnabled) (o : Outcome) : withFg s o = .refused .foregroundNotEnabled :=
  if_neg h

theorem withRenderer_next {s t : State} {o : Outcome} :
    withRenderer s o = .next t ↔ s.RendererEnabled ∧ o = .next t := by
  unfold withRenderer
  split
  · exact ⟨fun e => ⟨‹_›, e⟩, And.right⟩
  · exact ⟨fun e => (nomatch e), fun e => absurd e.1 ‹_›⟩

theorem withRenderer_enabled {s : State} (h : s.RendererEnabled) (o : Outcome) : withRenderer s o = o := if_pos h

theorem withRenderer_refused {s : State} (h : ¬ s.RendererEnabled) (o : Outcome) :
    withRenderer s o = .refused .rendererNotEnabled := if_neg h

theorem thenReevaluate_next {s t : State} : thenReevaluate s = .next t ↔ t = s.reevaluate := by
  simp [thenReevaluate, eq_comm]

/-! ## The fatal entry -/

/-- While the latch is set the entry is a no-op that answers 0 (R204). -/
theorem State.fatalEntry_latched {s : State} (c : Byte) (h : s.alreadyFailed = true) :
    s.fatalEntry c = { s with rsp := 0 } := by simp [State.fatalEntry, h]

/-- What the entry leaves (R204 (b), (c)). -/
@[simp] theorem State.fatalEntry_fields (s : State) (c : Byte) :
    (s.fatalEntry c).drawIndex = s.drawIndex ∧ (s.fatalEntry c).frameReady = s.frameReady
    ∧ (s.fatalEntry c).doubleBufferEnabled = s.doubleBufferEnabled
    ∧ (s.fatalEntry c).refreshCounter = s.refreshCounter ∧ (s.fatalEntry c).refreshArmed = s.refreshArmed
    ∧ (s.fatalEntry c).bseBusy = s.bseBusy ∧ (s.fatalEntry c).bseDone = s.bseDone
    ∧ (s.fatalEntry c).bseT0 = s.bseT0 ∧ (s.fatalEntry c).bseDst = s.bseDst
    ∧ (s.fatalEntry c).bseTaint = s.bseTaint ∧ (s.fatalEntry c).srcClean = s.srcClean
    ∧ (s.fatalEntry c).clutHw = s.clutHw ∧ (s.fatalEntry c).clutValid = s.clutValid
    ∧ (s.fatalEntry c).palBusy = s.palBusy ∧ (s.fatalEntry c).palDone = s.palDone
    ∧ (s.fatalEntry c).palErr = s.palErr ∧ (s.fatalEntry c).palT0 = s.palT0
    ∧ (s.fatalEntry c).clutClean = s.clutClean ∧ (s.fatalEntry c).palTaint = s.palTaint
    ∧ (s.fatalEntry c).ringBuf = s.ringBuf ∧ (s.fatalEntry c).ringHead = s.ringHead
    ∧ (s.fatalEntry c).ringCount = s.ringCount ∧ (s.fatalEntry c).keytab = s.keytab
    ∧ (s.fatalEntry c).engineProgressCounter = s.engineProgressCounter
    ∧ (s.fatalEntry c).lmProgSeen = s.lmProgSeen ∧ (s.fatalEntry c).lmProgTs = s.lmProgTs
    ∧ (s.fatalEntry c).lmRefSeen = s.lmRefSeen ∧ (s.fatalEntry c).lmRefTs = s.lmRefTs
    ∧ (s.fatalEntry c).resetPending = s.resetPending ∧ (s.fatalEntry c).now = s.now
    ∧ (s.fatalEntry c).indicator = s.indicator ∧ (s.fatalEntry c).serialOut = s.serialOut
    ∧ (s.fatalEntry c).resetReq = s.resetReq ∧ (s.fatalEntry c).srcCpu = s.srcCpu
    ∧ (s.fatalEntry c).srcMem = s.srcMem ∧ (s.fatalEntry c).scratchCpu = s.scratchCpu
    ∧ (s.fatalEntry c).scratchMem = s.scratchMem ∧ (s.fatalEntry c).palIn = s.palIn
    ∧ (s.fatalEntry c).clutCpu = s.clutCpu ∧ (s.fatalEntry c).clutMem = s.clutMem
    ∧ (s.fatalEntry c).board = s.board ∧ (s.fatalEntry c).trace = s.trace ∧ (s.fatalEntry c).draws = s.draws := by
  unfold State.fatalEntry State.setFb
  split
  · repeat' constructor
  · split <;> (repeat' constructor)

/-- What the first entry writes (R204). -/
theorem State.fatalEntry_first {s : State} (c : Byte) (h : s.alreadyFailed = false) :
    (s.fatalEntry c).alreadyFailed = true ∧ (s.fatalEntry c).sysState = .failed ∧ (s.fatalEntry c).fatalCause = c
      ∧ (s.fatalEntry c).refreshIrqEnabled = false ∧ (s.fatalEntry c).lcdAddr = s.board.fbAddr s.board.fatalFb
      ∧ (s.fatalEntry c).lcdOut = s.lcdOut ++ [.reload (s.board.fbAddr s.board.fatalFb)]
      ∧ (s.fatalEntry c).visibleIndex = s.board.fatalFb ∧ (s.fatalEntry c).fgHold = .none
      ∧ (s.fatalEntry c).rsp = s.rsp := by
  simp [State.fatalEntry, h]

/-- The message is rendered into FB[FATAL_FB], element for element. -/
theorem State.fatalEntry_fb {s : State} (c : Byte) (h : s.alreadyFailed = false) :
    (s.fatalEntry c).fb s.board.fatalFb
      = Memory.fill s.board.fbSize (fun i => some (s.board.messagePixel c i)) (s.fb s.board.fatalFb) := by
  simp only [State.fatalEntry, h, Bool.false_eq_true, if_false, State.setFb, State.fb, State.display]
  split <;> simp_all

theorem State.fatalEntry_fb_other {s : State} (c : Byte) {k : FbIndex} (hk : k ≠ s.board.fatalFb) :
    (s.fatalEntry c).fb k = s.fb k := by
  unfold State.fatalEntry
  split
  · rfl
  · exact State.setFb_fb_other _ hk _

/-! ## Held waits -/

@[simp] theorem State.evalWait_none (s : State) : s.evalWait .none = s := rfl

/-- With no wait held the re-evaluation changes nothing. -/
theorem State.reevaluate_none {s : State} (h : s.fgHold = .none) : s.reevaluate = s := by
  simp [State.reevaluate, h]

/-- One evaluation of a wait does one of three things (R9). -/
theorem State.evalWait_cases (s : State) (h : FgHold) :
    (s.waitOutcome h = .complete ∧ s.evalWait h = s.waitCompleted h)
      ∨ (∃ c, s.waitOutcome h = .fatal c ∧ s.evalWait h = s.fatalEntry c)
      ∨ (s.waitOutcome h = .held ∧ s.evalWait h = { s with fgHold := h }) := by
  unfold State.evalWait
  cases s.waitOutcome h <;> simp

/-- What an evaluation of a wait leaves, whatever its outcome. -/
@[simp] theorem State.evalWait_fields (s : State) (h : FgHold) :
    (s.evalWait h).drawIndex = s.drawIndex ∧ (s.evalWait h).frameReady = s.frameReady
    ∧ (s.evalWait h).doubleBufferEnabled = s.doubleBufferEnabled
    ∧ (s.evalWait h).refreshCounter = s.refreshCounter ∧ (s.evalWait h).refreshArmed = s.refreshArmed
    ∧ (s.evalWait h).bseDone = s.bseDone ∧ (s.evalWait h).bseT0 = s.bseT0 ∧ (s.evalWait h).bseDst = s.bseDst
    ∧ (s.evalWait h).bseTaint = s.bseTaint ∧ (s.evalWait h).srcClean = s.srcClean
    ∧ (s.evalWait h).clutHw = s.clutHw ∧ (s.evalWait h).clutValid = s.clutValid
    ∧ (s.evalWait h).palDone = s.palDone ∧ (s.evalWait h).palErr = s.palErr ∧ (s.evalWait h).palT0 = s.palT0
    ∧ (s.evalWait h).clutClean = s.clutClean ∧ (s.evalWait h).palTaint = s.palTaint
    ∧ (s.evalWait h).ringBuf = s.ringBuf ∧ (s.evalWait h).ringHead = s.ringHead
    ∧ (s.evalWait h).ringCount = s.ringCount ∧ (s.evalWait h).keytab = s.keytab
    ∧ (s.evalWait h).engineProgressCounter = s.engineProgressCounter
    ∧ (s.evalWait h).lmProgSeen = s.lmProgSeen ∧ (s.evalWait h).lmProgTs = s.lmProgTs
    ∧ (s.evalWait h).lmRefSeen = s.lmRefSeen ∧ (s.evalWait h).lmRefTs = s.lmRefTs
    ∧ (s.evalWait h).resetPending = s.resetPending ∧ (s.evalWait h).now = s.now
    ∧ (s.evalWait h).indicator = s.indicator ∧ (s.evalWait h).serialOut = s.serialOut
    ∧ (s.evalWait h).resetReq = s.resetReq ∧ (s.evalWait h).srcCpu = s.srcCpu
    ∧ (s.evalWait h).srcMem = s.srcMem ∧ (s.evalWait h).scratchCpu = s.scratchCpu
    ∧ (s.evalWait h).scratchMem = s.scratchMem ∧ (s.evalWait h).palIn = s.palIn
    ∧ (s.evalWait h).clutCpu = s.clutCpu ∧ (s.evalWait h).clutMem = s.clutMem
    ∧ (s.evalWait h).board = s.board ∧ (s.evalWait h).trace = s.trace ∧ (s.evalWait h).draws = s.draws := by
  rcases s.evalWait_cases h with ⟨-, e⟩ | ⟨c, -, e⟩ | ⟨-, e⟩ <;> rw [e]
  · cases h <;> (repeat' constructor)
  · simp
  · repeat' constructor

/-- What the re-evaluation leaves, whatever it does. -/
@[simp] theorem State.reevaluate_fields (s : State) :
    (s.reevaluate).drawIndex = s.drawIndex ∧ (s.reevaluate).frameReady = s.frameReady
    ∧ (s.reevaluate).doubleBufferEnabled = s.doubleBufferEnabled
    ∧ (s.reevaluate).refreshCounter = s.refreshCounter ∧ (s.reevaluate).refreshArmed = s.refreshArmed
    ∧ (s.reevaluate).bseDone = s.bseDone ∧ (s.reevaluate).bseT0 = s.bseT0 ∧ (s.reevaluate).bseDst = s.bseDst
    ∧ (s.reevaluate).bseTaint = s.bseTaint ∧ (s.reevaluate).srcClean = s.srcClean
    ∧ (s.reevaluate).clutHw = s.clutHw ∧ (s.reevaluate).clutValid = s.clutValid
    ∧ (s.reevaluate).palDone = s.palDone ∧ (s.reevaluate).palErr = s.palErr ∧ (s.reevaluate).palT0 = s.palT0
    ∧ (s.reevaluate).clutClean = s.clutClean ∧ (s.reevaluate).palTaint = s.palTaint
    ∧ (s.reevaluate).ringBuf = s.ringBuf ∧ (s.reevaluate).ringHead = s.ringHead
    ∧ (s.reevaluate).ringCount = s.ringCount ∧ (s.reevaluate).keytab = s.keytab
    ∧ (s.reevaluate).engineProgressCounter = s.engineProgressCounter
    ∧ (s.reevaluate).lmProgSeen = s.lmProgSeen ∧ (s.reevaluate).lmProgTs = s.lmProgTs
    ∧ (s.reevaluate).lmRefSeen = s.lmRefSeen ∧ (s.reevaluate).lmRefTs = s.lmRefTs
    ∧ (s.reevaluate).resetPending = s.resetPending ∧ (s.reevaluate).now = s.now
    ∧ (s.reevaluate).indicator = s.indicator ∧ (s.reevaluate).serialOut = s.serialOut
    ∧ (s.reevaluate).resetReq = s.resetReq ∧ (s.reevaluate).srcCpu = s.srcCpu
    ∧ (s.reevaluate).srcMem = s.srcMem ∧ (s.reevaluate).scratchCpu = s.scratchCpu
    ∧ (s.reevaluate).scratchMem = s.scratchMem ∧ (s.reevaluate).palIn = s.palIn
    ∧ (s.reevaluate).clutCpu = s.clutCpu ∧ (s.reevaluate).clutMem = s.clutMem
    ∧ (s.reevaluate).board = s.board ∧ (s.reevaluate).trace = s.trace ∧ (s.reevaluate).draws = s.draws := by
  unfold State.reevaluate
  simp

/-! ## The ring -/

/-- `j` pops. -/
def State.poppedTimes (s : State) (j : Nat) : State :=
  { s with ringHead := (s.ringHead + j) % s.board.ringCap, ringCount := s.ringCount - j }

theorem State.poppedTimes_popped (s : State) (j : Nat) : s.popped.poppedTimes j = s.poppedTimes (j + 1) := by
  simp [State.popped, State.poppedTimes, Nat.add_assoc, Nat.add_comm 1 j, Nat.sub_sub]

/-- The byte `j` behind the head. -/
def State.ringAt (s : State) (j : Nat) : Byte := s.ringByte ((s.ringHead + j) % s.board.ringCap)

theorem State.ringAt_popped (s : State) (j : Nat) : s.popped.ringAt j = s.ringAt (j + 1) := by
  simp [State.popped, State.ringAt, State.ringByte, Nat.add_assoc, Nat.add_comm 1 j]

/-- Phase 1 of KDB.POLL: it pops up to the first mapped byte, or everything (R184). -/
theorem State.drain_spec (n : Nat) (s : State) (hh : s.ringHead < s.board.ringCap) :
    (∃ j k, j < n ∧ (∀ i < j, s.board.keyOf (s.ringAt i) = none) ∧ s.board.keyOf (s.ringAt j) = some k
        ∧ State.drain n s = (some k, s.poppedTimes (j + 1)))
      ∨ ((∀ i < n, s.board.keyOf (s.ringAt i) = none) ∧ State.drain n s = (none, s.poppedTimes n)) := by
  induction n generalizing s with
  | zero =>
    right
    refine ⟨by simp, ?_⟩
    simp [State.drain, State.poppedTimes, Nat.mod_eq_of_lt hh]
  | succ n ih =>
    have h0 : s.ringAt 0 = s.ringByte s.ringHead := by simp [State.ringAt, Nat.mod_eq_of_lt hh]
    have hcap : 0 < s.board.ringCap := by omega
    cases hk : s.board.keyOf (s.ringAt 0) with
    | some k =>
      left
      refine ⟨0, k, by omega, by simp, hk, ?_⟩
      simp [State.drain, ← h0, hk, State.poppedTimes, State.popped]
    | none =>
      have hd : State.drain (n + 1) s = State.drain n s.popped := by simp [State.drain, ← h0, hk]
      have hb : s.popped.board = s.board := rfl
      rcases ih s.popped (Nat.mod_lt _ hcap) with ⟨j, k, hj, hn, hs, e⟩ | ⟨hn, e⟩
      · left
        refine ⟨j + 1, k, by omega, fun i hi => ?_, by rw [← State.ringAt_popped]; exact hs, ?_⟩
        · cases i with
          | zero => exact hk
          | succ i => rw [← State.ringAt_popped]; exact hn i (by omega)
        · rw [hd, e, State.poppedTimes_popped]
      · right
        refine ⟨fun i hi => ?_, by rw [hd, e, State.poppedTimes_popped]⟩
        cases i with
        | zero => exact hk
        | succ i => rw [← State.ringAt_popped]; exact hn i (by omega)

/-- Phase 1 touches nothing but the ring's head and count. -/
@[simp] theorem State.drain_fields (n : Nat) (s : State) :
    ((State.drain n s).2).drawIndex = s.drawIndex ∧ ((State.drain n s).2).frameReady = s.frameReady
    ∧ ((State.drain n s).2).doubleBufferEnabled = s.doubleBufferEnabled
    ∧ ((State.drain n s).2).refreshCounter = s.refreshCounter
    ∧ ((State.drain n s).2).visibleIndex = s.visibleIndex ∧ ((State.drain n s).2).lcdAddr = s.lcdAddr
    ∧ ((State.drain n s).2).refreshIrqEnabled = s.refreshIrqEnabled
    ∧ ((State.drain n s).2).refreshArmed = s.refreshArmed ∧ ((State.drain n s).2).bseBusy = s.bseBusy
    ∧ ((State.drain n s).2).bseDone = s.bseDone ∧ ((State.drain n s).2).bseT0 = s.bseT0
    ∧ ((State.drain n s).2).bseDst = s.bseDst ∧ ((State.drain n s).2).bseTaint = s.bseTaint
    ∧ ((State.drain n s).2).srcClean = s.srcClean ∧ ((State.drain n s).2).clutHw = s.clutHw
    ∧ ((State.drain n s).2).clutValid = s.clutValid ∧ ((State.drain n s).2).palBusy = s.palBusy
    ∧ ((State.drain n s).2).palDone = s.palDone ∧ ((State.drain n s).2).palErr = s.palErr
    ∧ ((State.drain n s).2).palT0 = s.palT0 ∧ ((State.drain n s).2).clutClean = s.clutClean
    ∧ ((State.drain n s).2).palTaint = s.palTaint ∧ ((State.drain n s).2).ringBuf = s.ringBuf
    ∧ ((State.drain n s).2).keytab = s.keytab
    ∧ ((State.drain n s).2).engineProgressCounter = s.engineProgressCounter
    ∧ ((State.drain n s).2).lmProgSeen = s.lmProgSeen ∧ ((State.drain n s).2).lmProgTs = s.lmProgTs
    ∧ ((State.drain n s).2).lmRefSeen = s.lmRefSeen ∧ ((State.drain n s).2).lmRefTs = s.lmRefTs
    ∧ ((State.drain n s).2).resetPending = s.resetPending ∧ ((State.drain n s).2).sysState = s.sysState
    ∧ ((State.drain n s).2).alreadyFailed = s.alreadyFailed
    ∧ ((State.drain n s).2).fatalCause = s.fatalCause ∧ ((State.drain n s).2).fgHold = s.fgHold
    ∧ ((State.drain n s).2).now = s.now ∧ ((State.drain n s).2).indicator = s.indicator
    ∧ ((State.drain n s).2).lcdOut = s.lcdOut ∧ ((State.drain n s).2).serialOut = s.serialOut
    ∧ ((State.drain n s).2).resetReq = s.resetReq ∧ ((State.drain n s).2).rsp = s.rsp
    ∧ ((State.drain n s).2).fb0 = s.fb0 ∧ ((State.drain n s).2).fb1 = s.fb1
    ∧ ((State.drain n s).2).srcCpu = s.srcCpu ∧ ((State.drain n s).2).srcMem = s.srcMem
    ∧ ((State.drain n s).2).scratchCpu = s.scratchCpu ∧ ((State.drain n s).2).scratchMem = s.scratchMem
    ∧ ((State.drain n s).2).palIn = s.palIn ∧ ((State.drain n s).2).clutCpu = s.clutCpu
    ∧ ((State.drain n s).2).clutMem = s.clutMem ∧ ((State.drain n s).2).board = s.board
    ∧ ((State.drain n s).2).trace = s.trace ∧ ((State.drain n s).2).draws = s.draws := by
  induction n generalizing s with
  | zero => repeat' constructor
  | succ n ih =>
    unfold State.drain
    cases s.board.keyOf (s.ringByte s.ringHead) with
    | some k => repeat' constructor
    | none => simp only [ih, State.popped_fields, and_self]

end Sys2Proof.Machine
end

