-- ==== Sys2Proof/Laws/PerInstr.lean ====
section
/-! SUPPORT. The round trip of the encoding, one lemma a constructor. -/

namespace Sys2Proof

/-- The number a word spells (R90). -/
theorem opWord_toNat (u o : BitVec 4) (a : Byte) :
    (opWord u o a).toNat = u.toNat * 4096 + o.toNat * 256 + a.toNat := by
  have h : (opWord u o a).toNat = ((u ++ o : BitVec 8) ++ a : BitVec (8 + 8)).toNat := rfl
  have h2 : (u ++ o : BitVec 8).toNat = (u ++ o : BitVec (4 + 4)).toNat := rfl
  rw [h, BitVec.toNat_append, h2, BitVec.toNat_append, ← Nat.shiftLeft_add_eq_or_of_lt o.isLt,
    ← Nat.shiftLeft_add_eq_or_of_lt a.isLt, Nat.shiftLeft_eq, Nat.shiftLeft_eq]
  omega

theorem unitField_eq (w : Word16) : unitField w = w.toNat / 4096 := by
  have := w.isLt
  simp only [unitField, BitVec.extractLsb'_toNat, Nat.shiftRight_eq_div_pow]
  omega

theorem opField_eq (w : Word16) : opField w = w.toNat / 256 % 16 := by
  simp [opField, BitVec.extractLsb'_toNat, Nat.shiftRight_eq_div_pow]

theorem argField_toNat (w : Word16) : (argField w).toNat = w.toNat % 256 := by
  simp [argField, BitVec.extractLsb'_toNat]

theorem unitField_opWord (u o : BitVec 4) (a : Byte) : unitField (opWord u o a) = u.toNat := by
  rw [unitField_eq, opWord_toNat]
  omega

theorem opField_opWord (u o : BitVec 4) (a : Byte) : opField (opWord u o a) = o.toNat := by
  rw [opField_eq, opWord_toNat]
  omega

theorem argField_opWord (u o : BitVec 4) (a : Byte) : argField (opWord u o a) = a := by
  apply BitVec.eq_of_toNat_eq
  rw [argField_toNat, opWord_toNat]
  omega

/-- A word is put together from its three fields (R90). -/
theorem word_eq_of_fields {w v : Word16} (hu : unitField w = unitField v) (ho : opField w = opField v)
    (ha : argField w = argField v) : w = v := by
  apply BitVec.eq_of_toNat_eq
  have h := congrArg BitVec.toNat ha
  rw [argField_toNat, argField_toNat] at h
  rw [unitField_eq, unitField_eq] at hu
  rw [opField_eq, opField_eq] at ho
  omega

end Sys2Proof

namespace Sys2Proof.Laws.RoundTrip

open Sys2Proof

/-- Decoding the word of a well-formed operation gives it back (R94). -/
def Statement (i : Instr) : Prop := i.wf = true → decode (encode i) = .ok i

theorem envClk (n : Byte) : Statement (.envClk n) := by
  intro _; simp [encode, decode, decodeEnv, unitField_opWord, opField_opWord, argField_opWord]

theorem envEtick : Statement .envEtick := fun _ => by decide

theorem envSrcfill (v : Byte) : Statement (.envSrcfill v) := by
  intro _; simp [encode, decode, decodeEnv, unitField_opWord, opField_opWord, argField_opWord]

theorem envReset : Statement .envReset := fun _ => by decide

theorem fscBegin : Statement .fscBegin := fun _ => by decide

theorem fscSubmit : Statement .fscSubmit := fun _ => by decide

theorem fscWait : Statement .fscWait := fun _ => by decide

theorem fscRefresh : Statement .fscRefresh := fun _ => by decide

theorem fscSetmode (m : Bool) : Statement (.fscSetmode m) := by
  intro _; cases m <;> decide

theorem fscIrqctl (e : Bool) : Statement (.fscIrqctl e) := by
  intro _; cases e <;> decide

theorem fscForcevis (k : FbIndex) : Statement (.fscForcevis k) := by
  intro _; fin_cases k <;> decide

theorem fscRdcnt : Statement .fscRdcnt := fun _ => by decide

theorem fscRdstat : Statement .fscRdstat := fun _ => by decide

theorem bseScale : Statement .bseScale := fun _ => by decide

theorem bseFlush : Statement .bseFlush := fun _ => by decide

theorem bseStart : Statement .bseStart := fun _ => by decide

theorem bseWait : Statement .bseWait := fun _ => by decide

theorem bseDone : Statement .bseDone := fun _ => by decide

theorem bsePalbuild : Statement .bsePalbuild := fun _ => by decide

theorem bsePalflush : Statement .bsePalflush := fun _ => by decide

theorem bsePalload : Statement .bsePalload := fun _ => by decide

theorem bsePalwait : Statement .bsePalwait := fun _ => by decide

theorem bsePaldone : Statement .bsePaldone := fun _ => by decide

theorem bsePalerr : Statement .bsePalerr := fun _ => by decide

theorem kdbRx (b : Byte) : Statement (.kdbRx b) := by
  intro _; simp [encode, decode, decodeKdb, unitField_opWord, opField_opWord, argField_opWord]

theorem kdbPoll : Statement .kdbPoll := fun _ => by decide

theorem sysCheck : Statement .sysCheck := fun _ => by decide

theorem sysFatal (c : Byte) : Statement (.sysFatal c) := by
  intro h
  have hc : ¬c = 0#8 := by simpa [Instr.wf] using h
  simp [encode, decode, decodeSys, unitField_opWord, opField_opWord, argField_opWord, hc]

theorem sysFloop : Statement .sysFloop := fun _ => by decide

theorem sysTelem : Statement .sysTelem := fun _ => by decide

theorem sysInitfail : Statement .sysInitfail := fun _ => by decide

end Sys2Proof.Laws.RoundTrip
end

