-- ==== Sys2Proof/Tests/Slice0.lean ====
section
/-! SUPPORT. The model's own tests. Expected results are the vectors of spec/95_test_vectors.md (named V-...) or follow
by hand from the rule named; each is one step on a small state. -/

-- One thread: the parallel elaboration of many small theorems can exceed the check's memory limit.
set_option Elab.async false

namespace Sys2Proof.Tests

open Sys2Proof.Machine

/-! ## Well-formedness and decoding -/

/-- The one check of `Instr.wf` refuses an ill-formed term (R95: SYS.FATAL with c = 0). -/
theorem test_wf_refuses_fatal_zero : Instr.wf (.sysFatal 0) = false := by decide

theorem test_wf_admits_fatal_255 : Instr.wf (.sysFatal 255) = true := by decide

/-! Each constructor's word, written out as {UNIT, OP, ARG} from R94: unit nibble, op nibble, argument byte. -/

theorem test_decode_env :
    decode 0b0000000111111111#16 = .ok (.envClk 255)
      ∧ decode 0b0000001000000000#16 = .ok .envEtick
      ∧ decode 0b0000001100001001#16 = .ok (.envSrcfill 9)
      ∧ decode 0b0000010000000000#16 = .ok .envReset := by decide

theorem test_decode_fsc :
    decode 0b0001000000000000#16 = .ok .fscBegin
      ∧ decode 0b0001000100000000#16 = .ok .fscSubmit
      ∧ decode 0b0001001000000000#16 = .ok .fscWait
      ∧ decode 0b0001001100000000#16 = .ok .fscRefresh
      ∧ decode 0b0001010000000001#16 = .ok (.fscSetmode true)
      ∧ decode 0b0001010100000000#16 = .ok (.fscIrqctl false)
      ∧ decode 0b0001011000000001#16 = .ok (.fscForcevis 1)
      ∧ decode 0b0001011100000000#16 = .ok .fscRdcnt
      ∧ decode 0b0001100000000000#16 = .ok .fscRdstat := by decide

theorem test_decode_bse :
    decode 0b0010000000000000#16 = .ok .bseScale
      ∧ decode 0b0010000100000000#16 = .ok .bseFlush
      ∧ decode 0b0010001000000000#16 = .ok .bseStart
      ∧ decode 0b0010001100000000#16 = .ok .bseWait
      ∧ decode 0b0010010000000000#16 = .ok .bseDone
      ∧ decode 0b0010010100000000#16 = .ok .bsePalbuild
      ∧ decode 0b0010011000000000#16 = .ok .bsePalflush
      ∧ decode 0b0010011100000000#16 = .ok .bsePalload
      ∧ decode 0b0010100000000000#16 = .ok .bsePalwait
      ∧ decode 0b0010100100000000#16 = .ok .bsePaldone
      ∧ decode 0b0010101000000000#16 = .ok .bsePalerr := by decide

theorem test_decode_kdb :
    decode 0b0011000001110111#16 = .ok (.kdbRx 0x77)
      ∧ decode 0b0011000100000000#16 = .ok .kdbPoll := by decide

theorem test_decode_sys :
    decode 0b0100000000000000#16 = .ok .sysCheck
      ∧ decode 0b0100000100000011#16 = .ok (.sysFatal 3)
      ∧ decode 0b0100001000000000#16 = .ok .sysFloop
      ∧ decode 0b0100001100000000#16 = .ok .sysTelem
      ∧ decode 0b0100010000000000#16 = .ok .sysInitfail := by decide

/-! The illegal words of 95 section 3.1. -/

theorem test_decode_illegal :
    decode 0x1402 = .error .argHighBits
      ∧ decode 0x1001 = .error .argNotZero
      ∧ decode 0x1900 = .error .unassignedOp
      ∧ decode 0x0000 = .error .unassignedOp
      ∧ decode 0x2B00 = .error .unassignedOp
      ∧ decode 0x3200 = .error .unassignedOp
      ∧ decode 0x4100 = .error .causeZero
      ∧ decode 0x4500 = .error .unassignedOp
      ∧ decode 0x5000 = .error .reservedUnit
      ∧ decode 0xFFFF = .error .reservedUnit := by decide

/-- The map of R94 is the one in the file: 31 rows, no two of which overlap. -/
theorem test_map_has_31_rows : opcodeMap.length = 31 := by decide

theorem test_map_rows_disjoint :
    opcodeMap.Pairwise (fun r q => r.pattern &&& q.mask ≠ q.pattern ∧ q.pattern &&& r.mask ≠ r.pattern) := by
  decide +kernel

theorem test_listing_setmode : (Instr.fscSetmode true).listing = "FSC.SETMODE 1" := by decide +kernel

/-! ## Helpers -/

/-- The step answers a next state with a property. -/
def runs (i : Instr) (s : State) (p : State → Bool) : Bool :=
  match exec i s with
  | .next t => p t
  | .fault _ => false
  | .refused _ => false

/-- The step is refused for a reason. -/
def refuses (i : Instr) (s : State) (r : Refusal) : Bool :=
  match exec i s with
  | .refused q => q == r
  | .next _ => false
  | .fault _ => false

/-- 95 section 2's shorthand (fr, di, db, vi, ie, ar, cnt), over the reset state, with `lcd_addr` the visible one's. -/
def fsc (fr : Bool) (di : FbIndex) (db : Bool) (vi : FbIndex) (ie ar : Bool) (cnt : Nat) : State :=
  { State.reset with
    frameReady := fr, drawIndex := di, doubleBufferEnabled := db, visibleIndex := vi
    refreshIrqEnabled := ie, refreshArmed := ar, refreshCounter := cnt
    lcdAddr := Board.t1.fbAddr vi }

/-- The same seven registers of a state. -/
def isFsc (fr : Bool) (di : FbIndex) (db : Bool) (vi : FbIndex) (ie ar : Bool) (cnt : Nat) (t : State) : Bool :=
  t.frameReady == fr && t.drawIndex == di && t.doubleBufferEnabled == db && t.visibleIndex == vi
    && t.refreshIrqEnabled == ie && t.refreshArmed == ar && t.refreshCounter == cnt

/-- SRC.cpu = [[1,2],[3,4]] of 95. -/
def src1234 : Memory Byte := [(0, 1), (1, 2), (2, 3), (3, 4)]

/-- The 4 x 4 block of V-BSE-1. -/
def block1234 : Memory Byte :=
  [(0, 1), (1, 1), (2, 2), (3, 2), (4, 1), (5, 1), (6, 2), (7, 2)]
    ++ [(8, 3), (9, 3), (10, 4), (11, 4), (12, 3), (13, 3), (14, 4), (15, 4)]

/-- The state before V-BSE-13's BSE.DONE: the flushed block, entries R, G, B, W for the indexes 1 to 4, in flight to
FB[1]. -/
def beforeDone : State :=
  { State.reset with
    scratchCpu := block1234, scratchMem := block1234, srcClean := true
    clutHw := Vector.ofFn fun i =>
      if i.val = 1 then 0xFFFF0000 else if i.val = 2 then 0xFF00FF00
      else if i.val = 3 then 0xFF0000FF else if i.val = 4 then 0xFFFFFFFF else 0xFF000000
    clutValid := true, bseBusy := true, bseDst := 1, bseT0 := 1000, now := 1000 }

/-! ## FSC -/

/-- V-FSC-12. -/
theorem test_begin_reset : runs .fscBegin .reset (fun t => t.rsp == 0xC0100000) = true := by decide +kernel

theorem test_rdstat_reset : runs .fscRdstat .reset (fun t => t.rsp == 2) = true := by decide +kernel

/-- The example of R119. -/
theorem test_rdstat_3c :
    runs .fscRdstat (fsc false 0 true 1 true true 8) (fun t => t.rsp == 0x3C) = true := by decide +kernel

theorem test_rdcnt : runs .fscRdcnt (fsc false 0 true 1 true true 8) (fun t => t.rsp == 8) = true := by decide +kernel

theorem test_submit : runs .fscSubmit .reset (fun t => t.frameReady && t.rsp == 0) = true := by decide +kernel

/-- V-SYS-9: FSC.SUBMIT in `Failed`. -/
theorem test_submit_failed :
    refuses .fscSubmit { State.reset with sysState := .failed } .foregroundNotEnabled = true := by decide +kernel

/-- V-FSC-8, V-FSC-9. -/
theorem test_wait_no_frame : runs .fscWait .reset (fun t => t.fgHold == .none) = true := by decide +kernel

theorem test_wait_held :
    runs .fscWait (fsc true 1 false 0 false false 0) (fun t => t.fgHold == .fscWait && t.frameReady) = true := by
  decide +kernel

/-- V-FSC-1: the scan event is lost. -/
theorem test_refresh_disabled :
    runs .fscRefresh (fsc true 1 true 0 false false 5) (isFsc true 1 true 0 false false 5) = true := by decide +kernel

/-- V-FSC-3. -/
theorem test_refresh_consumes :
    runs .fscRefresh (fsc true 1 true 0 true true 7) (fun t =>
      isFsc false 0 true 1 true true 8 t && t.lcdAddr == 0xC0100000 && t.lcdOut == [.reload 0xC0100000]) = true := by
  decide +kernel

theorem test_setmode : runs (.fscSetmode true) .reset (isFsc false 1 true 0 false false 0) = true := by decide +kernel

/-- V-FSC-10: disabling leaves it armed. -/
theorem test_irqctl_off :
    runs (.fscIrqctl false) (fsc false 1 false 0 true true 3) (isFsc false 1 false 0 false true 3) = true := by
  decide +kernel

theorem test_irqctl_on : runs (.fscIrqctl true) .reset (isFsc false 1 false 0 true true 0) = true := by decide +kernel

/-- V-FSC-11. -/
theorem test_forcevis :
    runs (.fscForcevis 0) (fsc false 0 true 1 true true 9) (fun t =>
      isFsc false 0 true 0 true true 9 t && t.lcdAddr == 0xC0000000 && t.lcdOut == [.reload 0xC0000000]) = true := by
  decide +kernel

/-! ## BSE -/

/-- V-BSE-1. -/
theorem test_scale_dup2 :
    runs .bseScale { State.reset with srcCpu := src1234, srcClean := true } (fun t =>
      t.scratchCpu == block1234 && !t.srcClean) = true := by decide +kernel

/-- V-BSE-2: SCALE = 3/2. -/
theorem test_scale_nearest :
    runs .bseScale { State.reset with board := { Board.t1 with scaleNum := 3, scaleDen := 2 }, srcCpu := src1234 } (fun t =>
      t.scratchCpu == [(0, 1), (1, 1), (2, 2), (3, 1), (4, 1), (5, 2), (6, 3), (7, 3), (8, 4)]) = true := by
  decide +kernel

/-- V-BSE-4: the derived constants at SCALE = 1. -/
theorem test_offsets_identity :
    let b := { Board.t1 with scaleNum := 1 }
    (b.outW, b.outH, b.offX, b.offY, b.scaleFn) = (2, 2, 2, 1, .identity) := by decide

theorem test_flush :
    runs .bseFlush { State.reset with scratchCpu := block1234 } (fun t =>
      t.scratchMem == block1234 && t.srcClean && t.srcMem == []) = true := by decide +kernel

/-- V-BSE-6. -/
theorem test_start :
    runs .bseStart { State.reset with srcClean := true, now := 1000 } (fun t =>
      t.bseBusy && !t.bseDone && t.bseT0 == 1000 && t.bseDst == 1 && !t.bseTaint) = true := by decide +kernel

/-- V-BSE-20. -/
theorem test_start_busy : refuses .bseStart { State.reset with palBusy := true } .unitBusy = true := by decide +kernel

/-- V-BSE-10: across the wrap of `now`, held at a difference of 50. -/
theorem test_bse_wait_held :
    runs .bseWait { State.reset with bseBusy := true, bseT0 := 0xFFFFFFF0, now := 0x22 } (fun t =>
      t.fgHold == .bseWait && t.sysState == .normal) = true := by decide +kernel

theorem test_bse_wait_timeout :
    runs .bseWait { State.reset with bseBusy := true, bseT0 := 0xFFFFFFF0, now := 0x23 } (fun t =>
      t.fgHold == .none && t.sysState == .failed && t.fatalCause == 1 && t.bseBusy) = true := by decide +kernel

/-- V-BSE-13: R, G in the rows 0 and 1, B, W in the rows 2 and 3, the other elements untouched. -/
theorem test_done :
    runs .bseDone beforeDone (fun t =>
      t.fb1 == [(1, 0xFFFF0000), (2, 0xFFFF0000), (3, 0xFF00FF00), (4, 0xFF00FF00)]
        ++ [(7, 0xFFFF0000), (8, 0xFFFF0000), (9, 0xFF00FF00), (10, 0xFF00FF00)]
        ++ [(13, 0xFF0000FF), (14, 0xFF0000FF), (15, 0xFFFFFFFF), (16, 0xFFFFFFFF)]
        ++ [(19, 0xFF0000FF), (20, 0xFF0000FF), (21, 0xFFFFFFFF), (22, 0xFFFFFFFF)]
      && t.bseDone && t.fb0 == []) = true := by decide +kernel

/-- V-BSE-11: a tainted transfer writes its 16 pixels, whatever they are. -/
theorem test_done_tainted :
    runs .bseDone { beforeDone with bseTaint := true } (fun t =>
      t.fb1.map (·.1) == [1, 2, 3, 4, 7, 8, 9, 10, 13, 14, 15, 16, 19, 20, 21, 22] && t.bseDone) = true := by
  decide +kernel

/-- V-BSE-15: GAMMA(v) = 255 - v. -/
theorem test_palbuild_gamma :
    runs .bsePalbuild
      { State.reset with
        board := { Board.t1 with gamma := Vector.ofFn fun i => BitVec.ofNat 8 (255 - i.val) }
        palIn := [(1, ⟨255, 0, 0⟩)] }
      (fun t => Memory.read t.clutCpu 1 == some 0xFF00FFFF && !t.clutClean) = true := by decide +kernel

/-- V-BSE-19: a load in flight is tainted. -/
theorem test_palbuild_taints :
    runs .bsePalbuild { State.reset with palBusy := true } (fun t => t.palTaint && t.clutCpu.length == 256) = true := by
  decide +kernel

theorem test_palflush :
    runs .bsePalflush { State.reset with clutCpu := [(1, 0xFFFF0000)] } (fun t =>
      Memory.read t.clutMem 1 == some 0xFFFF0000 && t.clutClean) = true := by decide +kernel

theorem test_palload :
    runs .bsePalload { State.reset with now := 20, clutClean := true, palErr := true, palDone := true } (fun t =>
      t.palBusy && !t.palDone && !t.palErr && t.palT0 == 20 && !t.palTaint) = true := by decide +kernel

/-- V-BSE-17: held at 120, cause 2 at 121. -/
theorem test_palwait_held :
    runs .bsePalwait { State.reset with palBusy := true, palT0 := 20, now := 120 } (fun t => t.fgHold == .palWait) = true := by
  decide +kernel

theorem test_palwait_timeout :
    runs .bsePalwait { State.reset with palBusy := true, palT0 := 20, now := 121 } (fun t =>
      t.sysState == .failed && t.fatalCause == 2) = true := by decide +kernel

/-- The example of R154; the held wait of P1 line 10 completes in the same step. -/
theorem test_paldone :
    runs .bsePaldone
      { State.reset with palBusy := true, fgHold := .palWait, clutClean := true, clutMem := [(1, 0xFFFF0000)] }
      (fun t => t.clutEntry 1 == 0xFFFF0000 && t.clutValid && t.palDone && !t.palBusy && t.fgHold == .none) = true := by
  decide +kernel

/-- U4. -/
theorem test_paldone_nothing : refuses .bsePaldone .reset .nothingInFlight = true := by decide +kernel

/-- The example of R155, the wait pending. -/
theorem test_palerr :
    runs .bsePalerr { State.reset with palBusy := true, fgHold := .palWait, clutValid := true } (fun t =>
      t.palErr && !t.clutValid && t.sysState == .failed && t.fatalCause == 2) = true := by decide +kernel

/-! ## KDB -/

theorem test_rx :
    runs (.kdbRx 0x77) .reset (fun t => t.ringCount == 1 && t.ringHead == 0 && t.ring == [0x77]) = true := by
  decide +kernel

/-- V-KDB-4: the push lands behind the wrap, in `ring_buf[0]`. -/
theorem test_rx_wraps :
    runs (.kdbRx 0x41) { State.reset with ringBuf := [0x77, 0x61, 0x31, 0x77], ringHead := 2, ringCount := 2 } (fun t =>
      t.ringBuf == [0x41, 0x61, 0x31, 0x77] && t.ring == [0x31, 0x77, 0x41]) = true := by decide +kernel

/-- V-KDB-1. -/
theorem test_poll_key_down :
    runs .kdbPoll { State.reset with ringBuf := [0x77, 0, 0, 0], ringCount := 1, now := 500 } (fun t =>
      t.rsp == 0x301 && t.key 1 == ⟨true, 500⟩ && t.ringCount == 0 && t.ringHead == 1) = true := by decide +kernel

/-- V-KDB-5: two unmapped bytes dropped, then a release in the same call. -/
theorem test_poll_drops_and_releases :
    runs .kdbPoll
      ({ State.reset with ringBuf := [0x78, 0x79, 0, 0], ringCount := 2, now := 200 }.setKey 2 ⟨true, 0⟩)
      (fun t => t.rsp == 0x202 && t.key 2 == ⟨false, 0⟩ && t.ringCount == 0) = true := by decide +kernel

/-! ## SYS -/

/-- V-SYS-3: both heartbeats expire in one call. -/
theorem test_check_both :
    runs .sysCheck { State.reset with now := 10001 } (fun t =>
      t.resetPending && t.resetReq == 1 && t.sysState == .failed && t.fatalCause == 3) = true := by decide +kernel

/-- V-SYS-1 at 5000: nothing. -/
theorem test_check_5000 :
    runs .sysCheck { State.reset with now := 5000 } (fun t => !t.resetPending && t.sysState == .normal) = true := by
  decide +kernel

/-- V-SYS-5. -/
theorem test_fatal :
    runs (.sysFatal 3) (fsc false 0 true 1 true true 9) (fun t =>
      t.alreadyFailed && t.sysState == .failed && t.fatalCause == 3 && !t.refreshIrqEnabled && t.visibleIndex == 0
        && t.lcdAddr == 0xC0000000 && t.lcdOut == [.reload 0xC0000000] && t.fb0.length == 24 && t.fb1 == []) = true := by
  decide +kernel

theorem test_fatal_latched :
    runs (.sysFatal 1) { State.reset with sysState := .failed, alreadyFailed := true, fatalCause := 3 } (fun t =>
      t.fatalCause == 3 && t.lcdOut == []) = true := by decide +kernel

/-- V-SYS-6, V-SYS-7. -/
theorem test_floop :
    runs .sysFloop { State.reset with sysState := .failed, alreadyFailed := true, fatalCause := 3 } (fun t =>
      t.indicator && t.serialOut.length == 1) = true := by decide +kernel

theorem test_floop_normal : refuses .sysFloop .reset .foregroundNotEnabled = true := by decide +kernel

/-- The example of R206. -/
theorem test_telemetry_line :
    telemetryLine 35 80 60 = ascii "FPS 35 CPU80% VSYNC60Hz".toList := by decide +kernel

theorem test_telem : runs .sysTelem .reset (fun t => t.serialOut.length == 1) = true := by decide +kernel

/-- V-SYS-8. -/
theorem test_initfail : runs .sysInitfail .reset (fun t => t.sysState == .halted) = true := by decide +kernel

theorem test_rx_halted :
    runs (.kdbRx 0x77) { State.reset with sysState := .halted } (fun t => t.ringCount == 1) = true := by decide +kernel

/-! ## ENV -/

/-- V-ENV-1. -/
theorem test_clk_wraps : runs (.envClk 2) { State.reset with now := 0xFFFFFFFF } (fun t => t.now == 1) = true := by
  decide +kernel

/-- V-BSE-7: the held wait fails in the step of ENV.CLK 1. -/
theorem test_clk_deadline :
    runs (.envClk 1) { State.reset with bseBusy := true, bseT0 := 1000, now := 1050, fgHold := .bseWait } (fun t =>
      t.now == 1051 && t.sysState == .failed && t.fatalCause == 1 && t.fgHold == .none) = true := by decide +kernel

/-- V-ENV-2. -/
theorem test_etick_wraps :
    runs .envEtick { State.reset with engineProgressCounter := 0xFFFFFFFF } (fun t => t.engineProgressCounter == 0) = true := by
  decide +kernel

/-- V-ENV-3: SCALE = 1, in flight. -/
theorem test_srcfill_identity :
    runs (.envSrcfill 9)
      { State.reset with board := { Board.t1 with scaleNum := 1 }, bseBusy := true, srcClean := true }
      (fun t => t.srcCpu == [(0, 9), (1, 9), (2, 9), (3, 9)] && !t.srcClean && t.bseTaint) = true := by decide +kernel

/-- V-ENV-4: the transfer reads SCRATCH. -/
theorem test_srcfill_dup2 :
    runs (.envSrcfill 9) { State.reset with bseBusy := true, srcClean := true } (fun t =>
      t.srcCpu == [(0, 9), (1, 9), (2, 9), (3, 9)] && t.srcClean && !t.bseTaint) = true := by decide +kernel

/-- V-ENV-5. -/
theorem test_reset :
    runs .envReset
      { State.reset with sysState := .failed, alreadyFailed := true, fatalCause := 3, now := 77, fb0 := [(0, 5)] }
      (fun t => isFsc false 1 false 0 false false 0 t && t.sysState == .normal && t.fatalCause == 0 && t.now == 0
        && t.fb0 == []) = true := by decide +kernel

/-! ## The step, and the renderer -/

/-- The fetch word is the very next input. -/
theorem test_step_fetch_word :
    (match step (State.reset.withFetchWord 16 0x1501) with
      | .next t => isFsc false 1 false 0 true true 0 t && t.trace == []
      | _ => false) = true := by decide +kernel

theorem test_step_illegal :
    (match step (State.reset.withFetchWord 16 0x4100) with
      | .refused r => r == .illegalWord .causeZero
      | _ => false) = true := by decide +kernel

/-- P5 line 3: the renderer draws into FB[1], the draw buffer. -/
theorem test_step_draw_pixels :
    (match step { State.reset with trace := [.drawPixels 1 [(23, 7), (0, 5)]] } with
      | .next t => t.fb1 == [(0, 5), (23, 7)] && t.fb0 == []
      | _ => false) = true := by decide +kernel

/-- The stale address of R275: after a flip the renderer still stores into FB[1], now the visible buffer. -/
theorem test_step_draw_stale :
    (match step { fsc false 0 true 1 true true 8 with trace := [.drawPixels 1 [(3, 7)]] } with
      | .next t => Memory.read (t.fb t.visibleIndex) 3 == some 7 && t.fb0 == []
      | _ => false) = true := by decide +kernel

/-- A framebuffer of T1 has 24 elements. -/
theorem test_step_draw_outside :
    (match step { State.reset with trace := [.drawPixels 1 [(24, 7)]] } with
      | .fault f => f == .noSuchElement .framebuffer 24
      | _ => false) = true := by decide +kernel

/-- U12: an output larger than the panel. -/
theorem test_step_bad_board :
    (match step { State.reset with board := { Board.t1 with scaleNum := 4 }, trace := [.word 0x1000] } with
      | .refused r => r == .badConfiguration
      | _ => false) = true := by decide +kernel

/-! ## Witnesses

For each statement of Certificates/Slice0/Obligations.lean that has hypotheses, a state and operands that meet them, clause
by clause, at the boundary where a clause has one. -/

/-- The refresh interrupt enabled, after FSC.IRQCTL 1. -/
def armed : State := { State.reset with refreshIrqEnabled := true, refreshArmed := true }

/-- A frame pending, FG held in FSC.WAIT. -/
def waiting : State := { State.reset with frameReady := true, fgHold := .fscWait }

/-- A transfer in flight since 0, FG held in BSE.WAIT. -/
def transferring : State := { State.reset with bseBusy := true, fgHold := .bseWait }

/-- A load pending since 0, FG held in BSE.PALWAIT. -/
def loading : State := { State.reset with palBusy := true, fgHold := .palWait }

/-- After the fatal entry with cause 3. -/
def failedState : State := State.reset.fatalEntry 3

/-- T1 at SCALE = 1. -/
def boardOne : Board := { Board.t1 with scaleNum := 1 }

/-- T1 at SCALE = 3/2. -/
def boardNearest : Board := { Board.t1 with scaleNum := 3, scaleDen := 2 }

/-- T1 at SCALE = 3/2 on a chip with an inexact division. -/
def boardInexact : Board := { boardNearest with exactDivision := false }

theorem witness_DecodeOfEncodeIsIdentity : Instr.wf (.sysFatal 1) = true ∧ Instr.wf (.envClk 0) = true := by decide

theorem witness_LegalWordIsEncodingOfItsOperation :
    decode 0x41FF = .ok (.sysFatal 255) ∧ decode 0x1601 = .ok (.fscForcevis 1) := by decide

theorem witness_IllegalWordIsRefused :
    State.reset.board.wf = true ∧ (State.reset.withFetchWord 16 0x1402).trace = [.word 0x1402]
      ∧ ∀ r ∈ opcodeMap, (0x1402 : Word16) &&& r.mask ≠ r.pattern := by decide +kernel

theorem witness_StepRunsDecodedOperation :
    (State.reset.withFetchWord 16 0x1100).board.wf = true
      ∧ (State.reset.withFetchWord 16 0x1100).trace = [.word 0x1100]
      ∧ decode 0x1100 = .ok .fscSubmit ∧ decodeTableWord 16 0x1100 = some .fscSubmit := by decide +kernel

theorem witness_RendererStoreWritesItsElement :
    State.reset.board.wf = true ∧ State.reset.RendererEnabled
      ∧ 23 < State.reset.board.fbSize ∧ (∀ k, Memory.wf (State.reset.fb k) = true)
      ∧ 3 < State.reset.board.srcSize ∧ Memory.wf State.reset.srcCpu = true ∧ Memory.wf State.reset.palIn = true
      ∧ State.reset.board.scaleFn ≠ .identity ∧ boardOne.wf = true ∧ boardOne.scaleFn = .identity
      ∧ { State.reset with bseBusy := true }.TransferInFlight ∧ { State.reset with bseBusy := true }.RendererEnabled
      ∧ ¬ State.reset.TransferInFlight := by
  decide +kernel

/-- Each way, one past its bound: FB_ADDR = 0xC0000000 and 0xC0100000, and a framebuffer of 96 bytes. -/
theorem witness_BadConfigurationIsRefused :
    (State.reset.withFetchWord 16 0x1000).trace = [.word 0x1000]
      ∧ { Board.t1 with panelW := 0 }.panelW = 0 ∧ { Board.t1 with panelH := 0 }.panelH = 0
      ∧ { Board.t1 with bpp := 0 }.bpp = 0 ∧ { Board.t1 with srcW := 0 }.srcW = 0 ∧ { Board.t1 with srcH := 0 }.srcH = 0
      ∧ { Board.t1 with nScratch := 0 }.nScratch = 0 ∧ { Board.t1 with ringCap := 0 }.ringCap = 0
      ∧ { Board.t1 with fatalCadenceMs := 0 }.fatalCadenceMs = 0 ∧ { Board.t1 with scaleDen := 0 }.scaleDen = 0
      ∧ { Board.t1 with scaleDen := 3 }.scaleNum < { Board.t1 with scaleDen := 3 }.scaleDen
      ∧ { Board.t1 with blitTimeoutMs := 9 }.blitTimeoutMs < 10
      ∧ 100 ≤ { Board.t1 with blitTimeoutMs := 100 }.blitTimeoutMs
      ∧ 2 ^ { Board.t1 with fbAddr1 := 2 ^ 32 }.aw ≤ { Board.t1 with fbAddr1 := 2 ^ 32 }.fbAddr 1
      ∧ (let b := { Board.t1 with fbAddr1 := 0xC0000000 + 95 }
         b.fbAddr 0 < b.fbAddr 1 + b.fbSize * b.bpp ∧ b.fbAddr 1 < b.fbAddr 0 + b.fbSize * b.bpp)
      ∧ { Board.t1 with panelW := 3 }.panelW < { Board.t1 with panelW := 3 }.outW
      ∧ { Board.t1 with panelH := 3 }.panelH < { Board.t1 with panelH := 3 }.outH
      ∧ { Board.t1 with keymap := [(0x7A, 0x01)] }.keyOf 0x7A
          ≠ { Board.t1 with keymap := [(0x7A, 0x01)] }.keyOf (0x7A ^^^ 0x20) := by decide +kernel

/-- The bounds themselves are admitted. -/
theorem test_board_bounds_admitted :
    { Board.t1 with blitTimeoutMs := 10 }.wf = true ∧ { Board.t1 with blitTimeoutMs := 99 }.wf = true
      ∧ { Board.t1 with fbAddr1 := 2 ^ 32 - 1 }.wf = true ∧ { Board.t1 with fbAddr1 := 0xC0000000 + 96 }.wf = true := by
  decide +kernel

theorem witness_BeginAnswersDrawBufferAddress :
    State.reset.FgEnabled ∧ State.reset.board.fbAddr State.reset.drawIndex < 2 ^ 32 := by decide +kernel

theorem witness_SubmitSetsFrameReady :
    State.reset.FgEnabled ∧ { State.reset with frameReady := true }.FgEnabled := by decide +kernel

theorem witness_WaitIsHeldWhileFramePending :
    (State.reset.FgEnabled ∧ State.reset.frameReady = false)
      ∧ { State.reset with frameReady := true }.FgEnabled := by decide +kernel

theorem witness_WaitWithoutInterruptNeverEnds :
    waiting.fgHold = .fscWait ∧ waiting.frameReady = true ∧ ¬ waiting.RefreshEnabled
      ∧ (∃ t, exec (.envClk 1) waiting = .next t) ∧ ∃ t, exec .fscRefresh waiting = .next t :=
  ⟨rfl, rfl, by decide +kernel, ⟨_, rfl⟩, ⟨_, rfl⟩⟩

theorem witness_RefreshHandlerConsumesFrame :
    ¬ State.reset.RefreshEnabled ∧ (armed.RefreshEnabled ∧ armed.frameReady = false)
      ∧ { armed with frameReady := true }.RefreshEnabled := by decide +kernel

theorem witness_SwapConfigurationWrites : State.reset.FgEnabled ∧ armed.FgEnabled := by decide +kernel

theorem witness_RdcntAnswersRefreshCounter :
    let s := { State.reset with refreshCounter := 2 ^ 32 - 1 }
    s.FgEnabled ∧ s.refreshCounter < 2 ^ 32 := by decide +kernel

theorem witness_RdstatAnswersSwapState : State.reset.FgEnabled ∧ Board.t1.resetDrawIndex = 1 := by decide +kernel

theorem witness_ConsumedFramesAlternateBuffers :
    let s := { armed with doubleBufferEnabled := true, refreshCounter := 2 ^ 32 - 1 }
    s.FgEnabled ∧ s.RefreshEnabled ∧ s.doubleBufferEnabled = true ∧ s.frameReady = false
      ∧ s.refreshCounter < 2 ^ s.board.cntW := by decide +kernel

theorem witness_SingleBufferModeNeverFlips :
    armed.FgEnabled ∧ armed.RefreshEnabled ∧ armed.doubleBufferEnabled = false ∧ armed.frameReady = false := by
  decide +kernel

theorem witness_HeldWaitFollowsItsOutcomeFunction :
    State.reset.fgHold = .none ∧ waiting.fgHold = .fscWait ∧ transferring.fgHold = .bseWait
      ∧ loading.fgHold = .palWait := by decide +kernel

theorem witness_NoSettledWaitStaysHeld :
    Instr.agent (.envClk 51) ≠ .fg ∧ (transferring.alreadyFailed = true → transferring.fgHold = .none)
      ∧ (∃ t, exec (.envClk 50) transferring = .next t) ∧ ∃ t, exec (.envClk 51) transferring = .next t :=
  ⟨by decide, by decide +kernel, ⟨_, rfl⟩, ⟨_, rfl⟩⟩

theorem witness_ScaleAtOneWritesNothing :
    { State.reset with board := boardOne }.FgEnabled ∧ boardOne.scaleNum = boardOne.scaleDen := by decide +kernel

theorem witness_ScaleByTwoDuplicatesPixels :
    let s := { State.reset with bseBusy := true }
    s.FgEnabled ∧ s.board.wf = true ∧ s.board.scaleNum = 2 * s.board.scaleDen
      ∧ 1 < s.board.srcW ∧ 1 < s.board.srcH ∧ s.TransferInFlight ∧ ¬ State.reset.TransferInFlight := by decide +kernel

theorem witness_ScaleSamplesNearestNeighbour :
    let s := { State.reset with board := boardNearest, bseBusy := true }
    s.FgEnabled ∧ s.board.wf = true ∧ s.board.scaleFn = .nearest ∧ 2 < s.board.outW ∧ 2 < s.board.outH
      ∧ s.board.samplesExactly = true ∧ s.TransferInFlight
      ∧ boardInexact.wf = true ∧ boardInexact.scaleFn = .nearest ∧ boardInexact.samplesExactly = false := by
  decide +kernel

theorem witness_FlushCopiesSourceToMemory :
    State.reset.FgEnabled ∧ State.reset.board.scaleNum ≠ State.reset.board.scaleDen
      ∧ { State.reset with board := boardOne }.FgEnabled ∧ boardOne.scaleNum = boardOne.scaleDen := by decide +kernel

theorem witness_StartTriggersTransfer :
    (State.reset.FgEnabled ∧ State.reset.bseBusy = false ∧ State.reset.palBusy = false)
      ∧ { State.reset with palBusy := true }.FgEnabled := by decide +kernel

/-- The deadline at 50 and 51 of T1's 50. -/
theorem witness_BlitWaitIsBounded :
    let s := { State.reset with bseBusy := true, bseT0 := 0xFFFFFFF0, now := 0x22 }
    let late := { s with now := 0x23 }
    s.FgEnabled ∧ State.reset.bseBusy = false ∧ { s with bseDone := true }.FgEnabled
      ∧ (s.bseDone = false ∧ (s.now - s.bseT0).toNat ≤ s.board.blitTimeoutMs)
      ∧ late.FgEnabled ∧ late.board.blitTimeoutMs < (late.now - late.bseT0).toNat := by decide +kernel

theorem witness_TransferConvertsCentredRegion :
    beforeDone.board.wf = true ∧ beforeDone.TransferInFlight ∧ 3 < beforeDone.board.outW ∧ 3 < beforeDone.board.outH
      ∧ beforeDone.bseTaint = false ∧ beforeDone.clutValid = true
      ∧ Memory.read beforeDone.xsrcMem (3 * beforeDone.board.outW + 3) = some 4
      ∧ (∀ x < beforeDone.board.outW, ∀ y < beforeDone.board.outH, 0 ≠ regionElement beforeDone.board x y)
      ∧ ¬ State.reset.TransferInFlight := by decide +kernel

theorem witness_PalbuildPacksGammaCorrectedPalette :
    let s := { State.reset with palIn := [(255, ⟨1, 2, 3⟩)] }
    s.FgEnabled ∧ Memory.read s.palIn 255 = some ⟨1, 2, 3⟩ ∧ ¬(s.palBusy = true ∧ s.palDone = false)
      ∧ { s with palBusy := true }.FgEnabled := by decide +kernel

theorem witness_PalflushAndPalloadPrepareLoad :
    (State.reset.FgEnabled ∧ State.reset.palBusy = false ∧ State.reset.bseBusy = false)
      ∧ { State.reset with bseBusy := true }.FgEnabled := by decide +kernel

/-- The deadline at 100 and 101 of T1's 100. -/
theorem witness_PaletteWaitIsBounded :
    let s := { State.reset with palBusy := true, palT0 := 20, now := 120 }
    let late := { s with now := 121 }
    s.FgEnabled ∧ State.reset.palBusy = false ∧ { s with palDone := true }.FgEnabled ∧ { s with palErr := true }.FgEnabled
      ∧ (s.palDone = false ∧ s.palErr = false ∧ (s.now - s.palT0).toNat ≤ s.board.clutTimeoutMs)
      ∧ late.FgEnabled ∧ late.board.clutTimeoutMs < (late.now - late.palT0).toNat := by decide +kernel

theorem witness_ClutLoadCompletesOrFails :
    let s := { loading with clutMem := [(255, 7)] }
    s.LoadPending ∧ s.palTaint = false ∧ Memory.read s.clutMem (255 : Byte).toNat = some 7
      ∧ ¬ State.reset.LoadPending := by decide +kernel

theorem witness_ConvertPresentsScaledImage :
    let s := { State.reset with clutValid := true, srcCpu := src1234 }
    s.board.wf = true ∧ s.FgEnabled ∧ s.board.samplesExactly = true ∧ s.clutValid = true ∧ s.frameReady = false
      ∧ s.bseBusy = false ∧ s.palBusy = false ∧ (50 : Byte).toNat ≤ s.board.blitTimeoutMs
      ∧ 3 < s.board.outW ∧ 3 < s.board.outH ∧ Memory.read s.srcCpu (sampledElement s.board 3 3) = some 4
      ∧ ∀ x < s.board.outW, ∀ y < s.board.outH, 0 ≠ regionElement s.board x y := by decide +kernel

theorem witness_ConvertTimesOutFatally :
    State.reset.board.wf = true ∧ State.reset.FgEnabled ∧ State.reset.alreadyFailed = false
      ∧ State.reset.bseBusy = false ∧ State.reset.palBusy = false
      ∧ State.reset.board.blitTimeoutMs < (51 : Byte).toNat := by decide +kernel

theorem witness_SetpalLoadsGammaCorrectedPalette :
    let s := { State.reset with palIn := [(1, ⟨255, 0, 0⟩)] }
    s.FgEnabled ∧ s.bseBusy = false ∧ s.palBusy = false ∧ (100 : Byte).toNat ≤ s.board.clutTimeoutMs
      ∧ Memory.read s.palIn (1 : Byte).toNat = some ⟨255, 0, 0⟩ := by decide +kernel

/-- A ring of 4 with its last free place, and full. -/
theorem witness_ReceivedByteIsQueuedOrDropped :
    let s := { State.reset with ringBuf := [0x41, 0x61, 0x31, 0x77], ringHead := 3, ringCount := 3 }
    s.ringCount < s.board.ringCap ∧ s.RingInBounds
      ∧ { s with ringCount := 4 }.board.ringCap ≤ { s with ringCount := 4 }.ringCount := by decide +kernel

theorem witness_PollReportsFirstMappedByte :
    let s := { State.reset with ringBuf := [0x77, 0x31, 0x78, 0x79], ringHead := 2, ringCount := 4 }
    s.FgEnabled ∧ s.RingInBounds ∧ s.ring = [0x78, 0x79] ++ 0x77 :: [0x31]
      ∧ (∀ c ∈ ([0x78, 0x79] : List Byte), s.board.keyOf c = none) ∧ s.board.keyOf 0x77 = some 0x01 := by decide +kernel

/-- The hold window at 100 and 101 of T1's 100. -/
theorem witness_PollReleasesFirstExpiredKey :
    let s := { State.reset with ringBuf := [0x78, 0, 0, 0], ringCount := 1, now := 101 }.setKey 2 ⟨true, 0⟩
    let early := { s with now := 100 }
    (s.FgEnabled ∧ s.RingInBounds ∧ (∀ c ∈ s.ring, s.board.keyOf c = none))
      ∧ (s.key 2).pressed = true ∧ s.board.holdWindowMs < (s.now - (s.key 2).lastActiveMs).toNat
      ∧ (∀ j < 2, (s.key (BitVec.ofNat 8 j)).pressed = false)
      ∧ (early.FgEnabled ∧ early.RingInBounds ∧ (∀ c ∈ early.ring, early.board.keyOf c = none))
      ∧ ∀ j < 256, ¬((early.key (BitVec.ofNat 8 j)).pressed = true
          ∧ early.board.holdWindowMs < (early.now - (early.key (BitVec.ofNat 8 j)).lastActiveMs).toNat) := by
  decide +kernel

theorem witness_OneKeyUpAfterHoldWindow :
    let s := { State.reset with ringBuf := [0, 0, 0, 0] }
    s.FgEnabled ∧ s.RingInBounds ∧ s.ringCount = 0 ∧ s.board.keyOf 0x77 = some 0x01
      ∧ (∀ j < 256, (s.key (BitVec.ofNat 8 j)).pressed = false)
      ∧ (100 : Byte).toNat ≤ s.board.holdWindowMs ∧ s.board.holdWindowMs < (101 : Byte).toNat := by decide +kernel

/-- The first and the last letter of each case. -/
theorem witness_KeymapIgnoresCase :
    Board.t1.wf = true
      ∧ ∀ c ∈ ([0x41, 0x5A, 0x61, 0x7A] : List Byte),
          (0x41 ≤ c.toNat ∧ c.toNat ≤ 0x5A) ∨ (0x61 ≤ c.toNat ∧ c.toNat ≤ 0x7A) := by decide +kernel

/-- Each clause of both checks: a counter that moved, and a deadline at and one past its bound. -/
theorem witness_CheckTestsBothHeartbeats :
    let s := { State.reset with now := 5000 }
    let stale := { State.reset with now := 5001 }
    let moved := { State.reset with engineProgressCounter := 1, refreshCounter := 1 }
    s.FgEnabled ∧ stale.FgEnabled ∧ moved.FgEnabled
      ∧ (s.engineProgressCounter = s.lmProgSeen ∧ (s.now - s.lmProgTs).toNat ≤ s.board.progressTimeoutMs)
      ∧ (stale.board.progressTimeoutMs < (stale.now - stale.lmProgTs).toNat ∧ stale.resetPending = false)
      ∧ moved.engineProgressCounter ≠ moved.lmProgSeen ∧ moved.refreshCounter ≠ moved.lmRefSeen
      ∧ { State.reset with now := 10001 }.board.refreshTimeoutMs < ((10001 : Word32) - State.reset.lmRefTs).toNat
      ∧ (s.refreshCounter = s.lmRefSeen ∧ ((10000 : Word32) - s.lmRefTs).toNat ≤ s.board.refreshTimeoutMs) := by
  decide +kernel

theorem witness_FatalEntryIsOneShot :
    State.reset.alreadyFailed = false ∧ failedState.alreadyFailed = true ∧ (1 : Byte) ≠ 0
      ∧ (State.reset.sysState ≠ .halted ∧ State.reset.fgHold = .none)
      ∧ { State.reset with sysState := .halted }.sysState = .halted ∧ waiting.fgHold ≠ .none
      ∧ (1 : FbIndex) ≠ State.reset.board.fatalFb ∧ 23 < State.reset.board.fbSize
      ∧ State.reset.board.fbSize ≤ 24 := by decide +kernel

theorem witness_FatalLoopTelemetryAndHalt :
    (failedState.sysState = .failed ∧ failedState.fgHold = .none) ∧ State.reset.sysState ≠ .failed
      ∧ State.reset.FgEnabled := by decide +kernel

theorem witness_RendererTicksAndFillsSource :
    State.reset.RendererEnabled ∧ ¬ failedState.RendererEnabled
      ∧ State.reset.board.scaleNum ≠ State.reset.board.scaleDen
      ∧ { State.reset with board := boardOne, bseBusy := true }.RendererEnabled
      ∧ { State.reset with board := boardOne, bseBusy := true }.TransferInFlight
      ∧ boardOne.scaleNum = boardOne.scaleDen ∧ ¬ State.reset.TransferInFlight := by decide +kernel

theorem witness_ForegroundRefusedWhereNotEnabled :
    (Instr.agent .fscBegin = .fg ∧ failedState.sysState ≠ .normal) ∧ waiting.fgHold ≠ .none
      ∧ Instr.agent (.sysFatal 1) = .fg ∧ Instr.wf (.sysFatal 1) = true
      ∧ (failedState.sysState = .failed ∧ failedState.alreadyFailed = true ∧ failedState.fgHold = .none) := by
  decide +kernel

/-- For each register, an operation that does change it. -/
theorem witness_RegistersHaveTheirWriters :
    runs .fscSubmit .reset (fun t => t.frameReady) = true
      ∧ runs .fscRefresh { armed with frameReady := true, doubleBufferEnabled := true } (fun t =>
          !t.frameReady && t.drawIndex != 1 && t.refreshCounter != 0) = true
      ∧ runs (.fscSetmode true) .reset (fun t => t.doubleBufferEnabled) = true
      ∧ runs .kdbPoll { State.reset with ringBuf := [0x77, 0, 0, 0], ringCount := 1 } (fun t =>
          t.keytab != State.reset.keytab) = true
      ∧ runs (.envClk 1) .reset (fun t => t.now != 0) = true
      ∧ runs .envEtick .reset (fun t => t.engineProgressCounter != 0) = true
      ∧ runs .sysCheck { State.reset with now := 5001 } (fun t => t.resetPending) = true := by decide +kernel

/-- For each space, an operation that does change it. -/
theorem witness_MemoryHasItsWriters :
    runs .bseDone beforeDone (fun t => Memory.read (t.fb 1) 1 != none && beforeDone.board.inRegion 1) = true
      ∧ runs (.sysFatal 3) .reset (fun t => Memory.read (t.fb 0) 23 != none && t.alreadyFailed) = true
      ∧ runs (.envSrcfill 9) .reset (fun t => t.srcCpu != []) = true
      ∧ runs .bseScale .reset (fun t => t.scratchCpu != []) = true
      ∧ runs .bseFlush { State.reset with scratchCpu := block1234 } (fun t => t.scratchMem != []) = true
      ∧ runs .bsePalbuild .reset (fun t => t.clutCpu != []) = true
      ∧ runs .bsePalflush { State.reset with clutCpu := [(0, 1)] } (fun t => t.clutMem != []) = true
      ∧ (∃ t, exec .bsePaldone loading = .next t) ∧ ∃ t, exec .bsePalerr loading = .next t :=
  ⟨by decide +kernel, by decide +kernel, by decide +kernel, by decide +kernel, by decide +kernel, by decide +kernel,
    by decide +kernel, ⟨_, rfl⟩, ⟨_, rfl⟩⟩

theorem witness_FailedAndHaltedAreTerminal_failed :
    let s := { State.reset with sysState := .failed, alreadyFailed := true, fatalCause := 3 }
    s.Inv ∧ s.sysState ≠ .normal ∧ ∃ t, exec .sysFloop s = .next t :=
  ⟨by constructor <;> decide +kernel, by decide +kernel, ⟨_, rfl⟩⟩

theorem witness_FailedAndHaltedAreTerminal_halted :
    let s := { State.reset with sysState := .halted }
    s.Inv ∧ s.sysState ≠ .normal ∧ ∃ t, exec (.kdbRx 1) s = .next t :=
  ⟨by constructor <;> decide +kernel, by decide +kernel, ⟨_, rfl⟩⟩

theorem witness_StepKeepsParameters : ∃ t, step (State.reset.withFetchWord 16 0x0400) = .next t := ⟨_, rfl⟩

/-- Without a wait, in each of the three waits, and at the last moment before the deadline. -/
theorem witness_InterruptHandlersCommute :
    (beforeDone.reevaluate = beforeDone ∧ beforeDone.TransferInFlight) ∧ waiting.reevaluate = waiting
      ∧ ({ transferring with now := 50 }.reevaluate = { transferring with now := 50 } ∧ transferring.TransferInFlight)
      ∧ ({ loading with now := 100 }.reevaluate = { loading with now := 100 } ∧ loading.LoadPending) :=
  ⟨⟨rfl, by decide +kernel⟩, rfl, ⟨rfl, by decide +kernel⟩, ⟨rfl, by decide +kernel⟩⟩

theorem witness_ResetMeetsInvariant : Board.t1.wf = true ∧ boardOne.wf = true ∧ boardNearest.wf = true := by
  decide +kernel

theorem witness_StepKeepsInvariant :
    (State.reset.withFetchWord 16 0x4103).Inv ∧ ∃ t, step (State.reset.withFetchWord 16 0x4103) = .next t :=
  ⟨by constructor <;> decide +kernel, ⟨_, rfl⟩⟩

theorem witness_StepKeepsDisplayTracksVisible :
    (State.reset.withFetchWord 16 0x1601).DisplayTracksVisible
      ∧ ∃ t, step (State.reset.withFetchWord 16 0x1601) = .next t :=
  ⟨by decide +kernel, ⟨_, rfl⟩⟩

theorem witness_StepKeepsMemoryCanonical :
    (State.reset.withFetchWord 16 0x2000).MemoryCanonical
      ∧ ∃ t, step (State.reset.withFetchWord 16 0x2000) = .next t :=
  ⟨by decide +kernel, ⟨_, rfl⟩⟩

theorem witness_DoubleBufferedBuffersStayApart :
    let s := { armed with doubleBufferEnabled := true, frameReady := true, trace := [.word 0x1300] }
    s.doubleBufferEnabled = true ∧ s.visibleIndex = 1 - s.drawIndex
      ∧ (∀ k, decode 0x1300 ≠ .ok (.fscForcevis k))
      ∧ ∃ t, step s = .next t ∧ t.alreadyFailed = false :=
  ⟨by decide +kernel, by decide +kernel, by decide, ⟨_, rfl, by decide +kernel⟩⟩

theorem witness_StepKeepsResetRequestedOnce :
    let s := { State.reset.withFetchWord 16 0x4000 with now := 5001 }
    s.ResetRequestedOnce ∧ ∃ t, step s = .next t :=
  ⟨by decide +kernel, ⟨_, rfl⟩⟩

end Sys2Proof.Tests
end

/-! PROOFS of the family 00_scope: the held waits (R9), the enabling conditions of FG (R14), the parameters (R10). -/

section

namespace Sys2Proof.Machine

/-! ## What a next state satisfies -/

/-- `p` holds of the next state, if the outcome is one. -/
def Ensures (o : Outcome) (p : State → Prop) : Prop := ∀ t, o = .next t → p t

@[simp] theorem ensures_next {s : State} {p : State → Prop} : Ensures (.next s) p ↔ p s :=
  ⟨fun h => h s rfl, fun h t e => by cases e; exact h⟩

@[simp] theorem ensures_refused {r : Refusal} {p : State → Prop} : Ensures (.refused r) p := fun _ e => nomatch e

@[simp] theorem ensures_fault {r : Fault} {p : State → Prop} : Ensures (.fault r) p := fun _ e => nomatch e

@[simp] theorem ensures_thenReevaluate {s : State} {p : State → Prop} :
    Ensures (thenReevaluate s) p ↔ p s.reevaluate := ensures_next

theorem ensures_ite {c : Prop} [Decidable c] {o o' : Outcome} {p : State → Prop} (h : Ensures o p)
    (h' : Ensures o' p) : Ensures (if c then o else o') p := by
  split
  · exact h
  · exact h'

theorem ensures_withFg {s : State} {o : Outcome} {p : State → Prop} (h : Ensures o p) : Ensures (withFg s o) p :=
  ensures_ite h ensures_refused

theorem ensures_withRenderer {s : State} {o : Outcome} {p : State → Prop} (h : Ensures o p) :
    Ensures (withRenderer s o) p := ensures_ite h ensures_refused

/-! ## Held waits (R9) -/

/-- Writing back the hold that a state has changes nothing. -/
theorem State.fgHold_rewritten {s : State} {h : FgHold} (hs : s.fgHold = h) : { s with fgHold := h } = s := by
  subst hs; rfl

/-- R113: the outcome of FSC.WAIT. -/
theorem State.waitOutcome_fscWait (s : State) :
    s.waitOutcome .fscWait = if s.frameReady = false then .complete else .held := by
  simp only [State.waitOutcome, ← Bool.not_eq_true, ite_not]

/-- R146: the outcome of BSE.WAIT. -/
theorem State.waitOutcome_bseWait (s : State) :
    s.waitOutcome .bseWait =
      if s.bseBusy = false ∨ s.bseDone = true then .complete
      else if s.board.blitTimeoutMs < (s.now - s.bseT0).toNat then .fatal 1
      else .held := by
  simp only [State.waitOutcome, expired, decide_eq_true_eq, ite_or]

/-- R156: the outcome of BSE.PALWAIT. -/
theorem State.waitOutcome_palWait (s : State) :
    s.waitOutcome .palWait =
      if s.palBusy = false ∨ s.palDone = true then .complete
      else if s.palErr = true ∨ s.board.clutTimeoutMs < (s.now - s.palT0).toNat then .fatal 2
      else .held := by
  simp only [State.waitOutcome, expired, Bool.or_eq_true, decide_eq_true_eq, ite_or]

/-- R113, on a held FSC.WAIT. -/
theorem State.reevaluate_fscWait {s : State} (h : s.fgHold = .fscWait) :
    s.reevaluate = if s.frameReady = false then { s with fgHold := .none, rsp := 0 } else s := by
  rw [State.reevaluate, h, State.evalWait, State.waitOutcome_fscWait]
  split_ifs
  · rfl
  · exact State.fgHold_rewritten h

/-- R146, on a held BSE.WAIT. -/
theorem State.reevaluate_bseWait {s : State} (h : s.fgHold = .bseWait) :
    s.reevaluate =
      if s.bseBusy = false ∨ s.bseDone = true then { s with bseBusy := false, fgHold := .none, rsp := 0 }
      else if s.board.blitTimeoutMs < (s.now - s.bseT0).toNat then s.fatalEntry 1
      else s := by
  rw [State.reevaluate, h, State.evalWait, State.waitOutcome_bseWait]
  split_ifs
  · rfl
  · rfl
  · exact State.fgHold_rewritten h

/-- R156, on a held BSE.PALWAIT. -/
theorem State.reevaluate_palWait {s : State} (h : s.fgHold = .palWait) :
    s.reevaluate =
      if s.palBusy = false ∨ s.palDone = true then { s with palBusy := false, fgHold := .none, rsp := 0 }
      else if s.palErr = true ∨ s.board.clutTimeoutMs < (s.now - s.palT0).toNat then s.fatalEntry 2
      else s := by
  rw [State.reevaluate, h, State.evalWait, State.waitOutcome_palWait]
  split_ifs
  · rfl
  · rfl
  · exact State.fgHold_rewritten h

/-- A completed wait is held no more. -/
theorem State.waitCompleted_fgHold (s : State) : (s.waitCompleted s.fgHold).fgHold = .none := by
  cases h : s.fgHold
  case none => exact h
  all_goals rfl

/-- The fatal entry leaves no wait held: the first one drops it, and with the latch set there is none. -/
theorem State.fatalEntry_fgHold {s : State} (c : Byte) (hs : s.alreadyFailed = true → s.fgHold = .none) :
    (s.fatalEntry c).fgHold = .none := by
  cases h : s.alreadyFailed with
  | true => rw [State.fatalEntry_latched c h]; exact hs h
  | false =>
    obtain ⟨-, -, -, -, -, -, -, hold, -⟩ := State.fatalEntry_first c h
    exact hold

/-- The re-evaluation ends a wait, or finds its outcome open and changes nothing. -/
theorem State.reevaluate_ends_or_held {s : State} (hs : s.alreadyFailed = true → s.fgHold = .none) :
    s.reevaluate.fgHold = .none ∨ (s.reevaluate = s ∧ s.waitOutcome s.fgHold = .held) := by
  rcases s.evalWait_cases s.fgHold with ⟨-, e⟩ | ⟨c, -, e⟩ | ⟨ho, e⟩
  · exact .inl (by rw [State.reevaluate, e, s.waitCompleted_fgHold])
  · exact .inl (by rw [State.reevaluate, e, State.fatalEntry_fgHold c hs])
  · exact .inr ⟨e, ho⟩

/-- What holds of a state whose wait has an open outcome (R113, R146, R156). -/
theorem State.waitOutcome_held {s : State} {h : FgHold} (ho : s.waitOutcome h = .held) :
    (h = .fscWait ∧ s.frameReady = true)
      ∨ (h = .bseWait ∧ s.bseBusy = true ∧ s.bseDone = false ∧ (s.now - s.bseT0).toNat ≤ s.board.blitTimeoutMs)
      ∨ (h = .palWait ∧ s.palBusy = true ∧ s.palDone = false ∧ s.palErr = false
          ∧ (s.now - s.palT0).toNat ≤ s.board.clutTimeoutMs) := by
  cases h with
  | none => cases ho
  | fscWait => exact .inl (by simpa [State.waitOutcome] using ho)
  | bseWait =>
    rw [State.waitOutcome_bseWait] at ho
    split_ifs at ho with hopen hlate
    obtain ⟨hbusy, hdone⟩ := not_or.mp hopen
    exact .inr (.inl ⟨rfl, eq_true_of_ne_false hbusy, eq_false_of_ne_true hdone, not_lt.mp hlate⟩)
  | palWait =>
    rw [State.waitOutcome_palWait] at ho
    split_ifs at ho with hopen hlate
    obtain ⟨hbusy, hdone⟩ := not_or.mp hopen
    obtain ⟨herr, hnow⟩ := not_or.mp hlate
    exact .inr (.inr ⟨rfl, eq_true_of_ne_false hbusy, eq_false_of_ne_true hdone, eq_false_of_ne_true herr,
      not_lt.mp hnow⟩)

/-! ## The steps of the agents other than FG -/

/-- The refresh handler writes none of these. -/
@[simp] theorem State.refreshBody_fields (s : State) :
    s.refreshBody.board = s.board ∧ s.refreshBody.alreadyFailed = s.alreadyFailed
      ∧ s.refreshBody.fgHold = s.fgHold := by
  unfold State.refreshBody State.consumeFrame
  split <;> (repeat' constructor)

/-- R9: a step of an agent other than FG ends with a re-evaluation, of a state whose latch and hold are those before the
step, or of the reset state. -/
theorem exec_next_of_agent_ne_fg {i : Instr} {s t : State} (hi : i.agent ≠ .fg) (h : exec i s = .next t) :
    ∃ u : State, t = u.reevaluate ∧ u.board = s.board
      ∧ ((u.alreadyFailed = s.alreadyFailed ∧ u.fgHold = s.fgHold) ∨ u = State.resetWith s.board s.trace s.draws) := by
  cases i with
  | envClk n => exact ⟨_, thenReevaluate_next.mp h, rfl, .inl ⟨rfl, rfl⟩⟩
  | envEtick =>
    obtain ⟨-, h⟩ := withRenderer_next.mp h
    exact ⟨_, thenReevaluate_next.mp h, rfl, .inl ⟨rfl, rfl⟩⟩
  | envSrcfill v =>
    obtain ⟨-, h⟩ := withRenderer_next.mp h
    exact ⟨_, thenReevaluate_next.mp h, by simp, .inl (by simp)⟩
  | envReset => exact ⟨_, thenReevaluate_next.mp h, rfl, .inr rfl⟩
  | fscRefresh =>
    refine ⟨_, thenReevaluate_next.mp h, ?_⟩
    split <;> simp
  | bseDone =>
    simp only [exec, execBseDone] at h
    split at h
    · exact ⟨_, thenReevaluate_next.mp h, by simp, .inl (by simp)⟩
    · cases h
  | bsePaldone =>
    simp only [exec, execBsePaldone] at h
    split at h
    · exact ⟨_, thenReevaluate_next.mp h, rfl, .inl ⟨rfl, rfl⟩⟩
    · cases h
  | bsePalerr =>
    simp only [exec, execBsePalerr] at h
    split at h
    · exact ⟨_, thenReevaluate_next.mp h, rfl, .inl ⟨rfl, rfl⟩⟩
    · cases h
  | kdbRx b => exact ⟨_, thenReevaluate_next.mp h, by simp, .inl (by simp)⟩
  | fscBegin | fscSubmit | fscWait | fscSetmode _ | fscIrqctl _ | fscForcevis _ | fscRdcnt | fscRdstat | bseScale
  | bseFlush | bseStart | bseWait | bsePalbuild | bsePalflush | bsePalload | bsePalwait | kdbPoll | sysCheck
  | sysFatal _ | sysFloop | sysTelem | sysInitfail => exact absurd rfl hi

/-! ## The operations of FG (R14) -/

/-- R14: every FG operation but SYS.FLOOP and SYS.FATAL stands behind the same guard. -/
theorem exec_eq_withFg {i : Instr} (hfg : i.agent = .fg) (hfloop : i ≠ .sysFloop) (hfatal : ∀ c, i ≠ .sysFatal c)
    (s : State) : ∃ o, exec i s = withFg s o := by
  cases i with
  | sysFloop => exact absurd rfl hfloop
  | sysFatal c => exact absurd rfl (hfatal c)
  | envClk _ | envEtick | envSrcfill _ | envReset | fscRefresh | bseDone | bsePaldone | bsePalerr | kdbRx _ => cases hfg
  | fscBegin | fscSubmit | fscWait | fscSetmode _ | fscIrqctl _ | fscForcevis _ | fscRdcnt | fscRdstat | bseScale
  | bseFlush | bseStart | bseWait | bsePalbuild | bsePalflush | bsePalload | bsePalwait | kdbPoll | sysCheck
  | sysTelem | sysInitfail => exact ⟨_, rfl⟩

theorem exec_refused_of_not_fgEnabled {i : Instr} {s : State} (hfg : i.agent = .fg) (hfloop : i ≠ .sysFloop)
    (hfatal : ∀ c, i ≠ .sysFatal c) (h : ¬ s.FgEnabled) : exec i s = .refused .foregroundNotEnabled := by
  obtain ⟨o, e⟩ := exec_eq_withFg hfg hfloop hfatal s
  rw [e, withFg_refused h]

/-- Where FG may issue an operation of `Normal`, it may issue SYS.FATAL. -/
theorem State.FgEnabled.fatalEnabled {s : State} (h : s.FgEnabled) : s.FatalEnabled := ⟨by simp [h.1], h.2⟩

/-- Where FG may issue SYS.FLOOP, it may issue SYS.FATAL. -/
theorem State.FloopEnabled.fatalEnabled {s : State} (h : s.FloopEnabled) : s.FatalEnabled := ⟨by simp [h.1], h.2⟩

/-- R205: SYS.FLOOP outside `Failed`, or while FG is held. -/
theorem exec_sysFloop_refused {s : State} (h : ¬ s.FloopEnabled) :
    exec .sysFloop s = .refused .foregroundNotEnabled := if_neg h

/-- R204: SYS.FATAL where FG can issue it. -/
theorem exec_sysFatal_enabled {c : Byte} {s : State} (hc : c ≠ 0) (h : s.FatalEnabled) :
    exec (.sysFatal c) s = .next (s.fatalEntry c) := by
  rw [exec, execSysFatal, if_neg hc, if_pos h]

/-- R204: SYS.FATAL in `Halted`, or while FG is held. -/
theorem exec_sysFatal_refused {c : Byte} {s : State} (hc : c ≠ 0) (h : ¬ s.FatalEnabled) :
    exec (.sysFatal c) s = .refused .foregroundNotEnabled := by
  rw [exec, execSysFatal, if_neg hc, if_neg h]

/-! ## The parameters (R10) -/

@[simp] theorem State.expireKey_board (s : State) : s.expireKey.board = s.board := by
  unfold State.expireKey
  split <;> simp

@[simp] theorem State.checkProgress_board (s : State) : s.checkProgress.board = s.board := by
  unfold State.checkProgress
  split_ifs <;> rfl

@[simp] theorem State.checkRefresh_board (s : State) : s.checkRefresh.board = s.board := by
  unfold State.checkRefresh
  split_ifs <;> simp

/-- No FG operation changes the parameters. -/
theorem exec_fg_ensures_board {i : Instr} (hi : i.agent = .fg) (s : State) :
    Ensures (exec i s) (fun t => t.board = s.board) := by
  cases i with
  | envClk _ | envEtick | envSrcfill _ | envReset | fscRefresh | bseDone | bsePaldone | bsePalerr | kdbRx _ => cases hi
  | fscBegin | fscRdcnt | fscWait | bseWait | bsePalwait | bseFlush | sysCheck =>
    exact ensures_withFg (ensures_next.mpr (by simp))
  | fscSubmit | fscSetmode _ | fscIrqctl _ | fscForcevis _ | fscRdstat | bsePalbuild | bsePalflush | sysTelem
  | sysInitfail => exact ensures_withFg (ensures_next.mpr rfl)
  | bseStart | bsePalload => exact ensures_withFg (ensures_ite ensures_refused (ensures_next.mpr rfl))
  | bseScale =>
    refine ensures_withFg (ensures_next.mpr ?_)
    split <;> rfl
  | kdbPoll =>
    refine ensures_withFg (ensures_next.mpr ?_)
    have hdrain : (State.drain s.ringCount s).2.board = s.board := by simp
    split <;> simp_all
  | sysFatal c => exact ensures_ite ensures_refused (ensures_ite (ensures_next.mpr (by simp)) ensures_refused)
  | sysFloop => exact ensures_ite (ensures_next.mpr rfl) ensures_refused

/-- No operation changes the parameters. -/
theorem exec_ensures_board (i : Instr) (s : State) : Ensures (exec i s) (fun t => t.board = s.board) := by
  by_cases hi : i.agent = .fg
  · exact exec_fg_ensures_board hi s
  · intro t h
    obtain ⟨u, rfl, hu, -⟩ := exec_next_of_agent_ne_fg hi h
    simp [hu]

/-- Neither does a store of the renderer. -/
theorem runInput_ensures_board (inp : Input) (s : State) : Ensures (runInput inp s) (fun t => t.board = s.board) := by
  cases inp with
  | word w =>
    simp only [runInput]
    split
    · exact exec_ensures_board _ s
    · exact ensures_refused
  | drawPixels k stores =>
    refine ensures_withRenderer ?_
    split
    · exact ensures_fault
    · exact ensures_thenReevaluate.mpr (by simp)
  | drawSource stores =>
    refine ensures_withRenderer ?_
    split
    · exact ensures_fault
    · refine ensures_thenReevaluate.mpr ?_
      split <;> simp
  | setPalette stores => exact ensures_withRenderer (ensures_thenReevaluate.mpr (by simp))

theorem step_ensures_board (s : State) : Ensures (step s) (fun t => t.board = s.board) := by
  unfold step
  split
  · exact ensures_next.mpr rfl
  · exact ensures_ite (runInput_ensures_board _ _) ensures_refused

end Sys2Proof.Machine

end

/-! The obligations of the family. -/

section

open Sys2Proof Sys2Proof.Machine

/-- Settles O20: such a step ends with a re-evaluation, which ends a wait or finds its outcome open. The latch and
the hold it meets are those before the step, or both clear after ENV.RESET. -/
theorem noSettledWaitStaysHeld : Obligations.NoSettledWaitStaysHeld := by
  intro i s t hi hlatch h
  obtain ⟨u, rfl, -, hu⟩ := exec_next_of_agent_ne_fg hi h
  have hlatch_u : u.alreadyFailed = true → u.fgHold = .none := by
    rcases hu with ⟨hfailed, hhold⟩ | rfl
    · rw [hfailed, hhold]; exact hlatch
    · exact fun _ => rfl
  rcases State.reevaluate_ends_or_held hlatch_u with hend | ⟨hsame, hheld⟩
  · exact .inl hend
  · rw [hsame]
    exact .inr (State.waitOutcome_held hheld)

/-- Settles O46, by the guards of the FG operations; SYS.FATAL in `Failed` meets the latch. -/
theorem foregroundRefusedWhereNotEnabled : Obligations.ForegroundRefusedWhereNotEnabled := by
  refine ⟨fun i s hfg hfloop hfatal h => ?_, fun i s hfg hwf h => ?_, fun c s hc hstate hlatch hhold => ?_⟩
  · exact exec_refused_of_not_fgEnabled hfg hfloop hfatal (not_and_or.mpr h)
  · have hoff : ¬ s.FatalEnabled := fun ⟨hrun, hawake⟩ => h.elim hrun (· hawake)
    by_cases hfloop : i = .sysFloop
    · rw [hfloop]
      exact exec_sysFloop_refused fun hon => hoff hon.fatalEnabled
    by_cases hfatal : ∃ c, i = .sysFatal c
    · obtain ⟨c, rfl⟩ := hfatal
      exact exec_sysFatal_refused (by simpa [Instr.wf] using hwf) hoff
    · exact exec_refused_of_not_fgEnabled hfg hfloop (not_exists.mp hfatal) fun hon => hoff hon.fatalEnabled
  · rw [exec_sysFatal_enabled hc ⟨by simp [hstate], hhold⟩, State.fatalEntry_latched c hlatch]

/-- Settles O19, one wait after another. -/
theorem heldWaitFollowsItsOutcomeFunction : Obligations.HeldWaitFollowsItsOutcomeFunction := fun _ =>
  ⟨State.reevaluate_none, State.reevaluate_fscWait, State.reevaluate_bseWait, State.reevaluate_palWait⟩

/-- Settles O51: what holds of every input holds of the step that takes it. -/
theorem stepKeepsParameters : Obligations.StepKeepsParameters := step_ensures_board

end

/-! PROOFS of the family 10_state: what every step keeps. -/

section

namespace Sys2Proof.Machine

/-! ## What a next state satisfies -/

theorem ensures_ite_of {c : Prop} [Decidable c] {o o' : Outcome} {p : State → Prop} (h : c → Ensures o p)
    (h' : ¬c → Ensures o' p) : Ensures (if c then o else o') p := by
  split
  · exact h ‹_›
  · exact h' ‹_›

/-- R14: the body of an FG operation runs where FG may issue it. -/
theorem ensures_withFg_of {s : State} {o : Outcome} {p : State → Prop} (h : s.FgEnabled → Ensures o p) :
    Ensures (withFg s o) p := ensures_ite_of h fun _ => ensures_refused

/-- R211: the body of a step on the renderer's behalf runs where the renderer does. -/
theorem ensures_withRenderer_of {s : State} {o : Outcome} {p : State → Prop} (h : s.RendererEnabled → Ensures o p) :
    Ensures (withRenderer s o) p := ensures_ite_of h fun _ => ensures_refused

/-! ## Memory in its canonical form -/

section

variable {α : Type}

/-- A bulk store within the space keeps its form and its bound. -/
theorem Memory.canonical_fill {n : Nat} (f : Nat → Option α) {m : Memory α}
    (h : Memory.wf m = true ∧ Memory.below n m = true) :
    Memory.wf (Memory.fill n f m) = true ∧ Memory.below n (Memory.fill n f m) = true :=
  ⟨Memory.wf_fill n f m h.1, Memory.below_fill f m h.2 le_rfl⟩

/-- A burst of stores within the space keeps its form and its bound. -/
theorem Memory.canonical_writeAll {n : Nat} {stores : List (Nat × α)} (hs : ∀ st ∈ stores, st.1 < n) {m : Memory α}
    (h : Memory.wf m = true ∧ Memory.below n m = true) :
    Memory.wf (m.writeAll stores) = true ∧ Memory.below n (m.writeAll stores) = true :=
  ⟨Memory.wf_writeAll stores m h.1, Memory.below_writeAll stores m h.2 hs⟩

/-- What holds of every value before and of every value stored holds of every value after a bulk store. -/
theorem Memory.forall_mem_fill {n : Nat} {f : Nat → Option α} {m : Memory α} {p : α → Prop}
    (hf : ∀ i v, f i = some v → p v) (hm : ∀ e ∈ m, p e.2) : ∀ e ∈ Memory.fill n f m, p e.2 := by
  intro e he
  rcases Memory.mem_fill n f m e he with ⟨-, hnew | ⟨-, hold⟩⟩ | ⟨-, hold⟩
  · exact hf _ _ hnew
  · exact hm _ (Memory.mem_of_read m hold)
  · exact hm _ hold

/-- No store of a burst without a first one outside is outside. -/
theorem lt_of_firstOutside_none {n : Nat} {stores : List (Nat × α)} (h : firstOutside n stores = none) :
    ∀ st ∈ stores, st.1 < n := by
  simpa [firstOutside] using h

end

theorem fit_lt (b : Board) (v : Nat) : b.fit v < 2 ^ (8 * b.bpp) := Nat.mod_lt _ (by positivity)

theorem pixel_lt (b : Board) (e : ClutEntry) : b.pixel e < 2 ^ (8 * b.bpp) := by
  unfold Board.pixel
  split <;> exact fit_lt b _

/-- A pixel that a transfer writes has BPP bytes (R145). -/
theorem State.transferPixel_lt {s : State} {i : Nat} {p : Pixel} (h : s.transferPixel i = some p) :
    p < 2 ^ (8 * s.board.bpp) := by
  unfold State.transferPixel at h
  split_ifs at h <;> cases h
  · exact fit_lt s.board _
  · exact pixel_lt s.board _

/-- A store into XSRC taints the transfer in flight (R142, R212). -/
theorem State.UntaintedIsFlushed.storedXsrc {s : State} (h : s.UntaintedIsFlushed) :
    s.storedXsrc.UntaintedIsFlushed := by
  refine ⟨fun hflight hclean => ?_, h.2⟩
  have htaint : s.storedXsrc.bseTaint = true := if_pos hflight
  cases htaint.symm.trans hclean

/-! ## What a write keeps -/

/-- FG is held only in `Normal`: what is left of `HoldJustified` (R9) within a step, before the wait is evaluated
again. -/
def State.HeldOnlyInNormal (s : State) : Prop := s.fgHold = .none ∨ s.sysState = .normal

/-- In `Failed` and `Halted`, with no wait held, `sys_state`, the cause and the hold stay (R44, R239). -/
def State.StaysStopped (s t : State) : Prop :=
  s.sysState ≠ .normal → s.LatchMatchesFailed → s.fgHold = .none →
    t.sysState = s.sysState ∧ t.fatalCause = s.fatalCause ∧ t.fgHold = .none

/-- From `s` to `t` each invariant is kept on its own, whatever else holds of `s`. -/
structure State.Keeps (s t : State) : Prop where
  board : t.board = s.board
  staysStopped : s.StaysStopped t
  heldOnlyInNormal : s.HeldOnlyInNormal → t.HeldOnlyInNormal
  displayTracksVisible : s.DisplayTracksVisible → t.DisplayTracksVisible
  latchMatchesFailed : s.LatchMatchesFailed → t.LatchMatchesFailed
  flushedViewsAgree : s.FlushedViewsAgree → t.FlushedViewsAgree
  untaintedIsFlushed : s.UntaintedIsFlushed → t.UntaintedIsFlushed
  oneUnitOperation : s.OneUnitOperation → t.OneUnitOperation
  ringInBounds : s.RingInBounds → t.RingInBounds
  countersInWidth : s.CountersInWidth → t.CountersInWidth
  enabledIsArmed : s.EnabledIsArmed → t.EnabledIsArmed
  resetRequestedOnce : s.ResetRequestedOnce → t.ResetRequestedOnce
  failedShowsMessage : s.FailedShowsMessage → t.FailedShowsMessage
  memoryCanonical : s.MemoryCanonical → t.MemoryCanonical
  pixelsFit : s.PixelsFit → t.PixelsFit

theorem bumpCounter_lt (b : Board) (c : Nat) : bumpCounter b c < 2 ^ b.cntW := Nat.mod_lt _ (by positivity)

/-- The registers that the first fatal entry writes (R204), FB[FATAL_FB] apart. -/
def State.failing (s : State) (c : Byte) : State :=
  { s.display s.board.fatalFb with
    alreadyFailed := true
    sysState := .failed
    fatalCause := c
    refreshIrqEnabled := false
    fgHold := .none }

/-- The first fatal entry writes its registers, then renders the message. -/
theorem State.fatalEntry_unlatched {s : State} (c : Byte) (h : s.alreadyFailed = false) :
    s.fatalEntry c = (s.failing c).setFb s.board.fatalFb
      (Memory.fill s.board.fbSize (fun i => some (s.board.messagePixel c i)) ((s.failing c).fb s.board.fatalFb)) := by
  simp only [State.fatalEntry, h, Bool.false_eq_true, if_false, State.setFb]
  split <;> rfl

namespace State.Keeps

variable {s t u : State}

theorem refl (s : State) : s.Keeps s := by
  constructor
  case board => rfl
  case staysStopped => exact fun _ _ hhold => ⟨rfl, rfl, hhold⟩
  all_goals exact id

theorem trans (h : s.Keeps t) (h' : t.Keeps u) : s.Keeps u where
  board := h'.board.trans h.board
  staysStopped := by
    intro hs hlatch hhold
    obtain ⟨hstate, hcause, hhold⟩ := h.staysStopped hs hlatch hhold
    obtain ⟨hstate', hcause', hhold'⟩ := h'.staysStopped (hstate ▸ hs) (h.latchMatchesFailed hlatch) hhold
    exact ⟨hstate'.trans hstate, hcause'.trans hcause, hhold'⟩
  heldOnlyInNormal := h'.heldOnlyInNormal ∘ h.heldOnlyInNormal
  displayTracksVisible := h'.displayTracksVisible ∘ h.displayTracksVisible
  latchMatchesFailed := h'.latchMatchesFailed ∘ h.latchMatchesFailed
  flushedViewsAgree := h'.flushedViewsAgree ∘ h.flushedViewsAgree
  untaintedIsFlushed := h'.untaintedIsFlushed ∘ h.untaintedIsFlushed
  oneUnitOperation := h'.oneUnitOperation ∘ h.oneUnitOperation
  ringInBounds := h'.ringInBounds ∘ h.ringInBounds
  countersInWidth := h'.countersInWidth ∘ h.countersInWidth
  enabledIsArmed := h'.enabledIsArmed ∘ h.enabledIsArmed
  resetRequestedOnce := h'.resetRequestedOnce ∘ h.resetRequestedOnce
  failedShowsMessage := h'.failedShowsMessage ∘ h.failedShowsMessage
  memoryCanonical := h'.memoryCanonical ∘ h.memoryCanonical
  pixelsFit := h'.pixelsFit ∘ h.pixelsFit

/-! ### Memory -/

/-- A framebuffer replaced by one of its form, with pixels of their width. -/
theorem setFb {k : FbIndex} {m : Memory Pixel}
    (hform : Memory.wf (s.fb k) = true ∧ Memory.below s.board.fbSize (s.fb k) = true →
      Memory.wf m = true ∧ Memory.below s.board.fbSize m = true)
    (hfit : (∀ e ∈ s.fb k, e.2 < 2 ^ (8 * s.board.bpp)) → ∀ e ∈ m, e.2 < 2 ^ (8 * s.board.bpp)) :
    s.Keeps (s.setFb k m) := by
  unfold State.fb at hform hfit
  unfold State.setFb
  split_ifs at hform hfit ⊢
  · exact { refl s with
      memoryCanonical := fun ⟨hfb0, hrest⟩ => ⟨hform hfb0, hrest⟩
      pixelsFit := fun ⟨hfb0, hfb1⟩ => ⟨hfit hfb0, hfb1⟩ }
  · exact { refl s with
      memoryCanonical := fun ⟨hfb0, hfb1, hrest⟩ => ⟨hfb0, hform hfb1, hrest⟩
      pixelsFit := fun ⟨hfb0, hfb1⟩ => ⟨hfb0, hfit hfb1⟩ }

/-- A bulk store of pixels of their width. -/
theorem fillFb {k : FbIndex} {f : Nat → Option Pixel} (hf : ∀ i p, f i = some p → p < 2 ^ (8 * s.board.bpp)) :
    s.Keeps (s.setFb k (Memory.fill s.board.fbSize f (s.fb k))) :=
  setFb (Memory.canonical_fill f) (Memory.forall_mem_fill hf)

/-- R212, R214: a store into `SRC.cpu`, with its ghost effects. -/
theorem storedSrc {m : Memory Byte}
    (hform : Memory.wf s.srcCpu = true ∧ Memory.below s.board.srcSize s.srcCpu = true →
      Memory.wf m = true ∧ Memory.below s.board.srcSize m = true) :
    s.Keeps (State.storedSrc { s with srcCpu := m }) := by
  have hcanonical : s.MemoryCanonical → State.MemoryCanonical { s with srcCpu := m } :=
    fun ⟨hfb0, hfb1, hsrc, hrest⟩ => ⟨hfb0, hfb1, hform hsrc, hrest⟩
  cases hfn : s.board.scaleFn with
  | identity =>
    rw [State.storedSrc, hfn]
    exact { refl s with
      flushedViewsAgree := fun h => ⟨nofun, h.2⟩
      untaintedIsFlushed := State.UntaintedIsFlushed.storedXsrc
      memoryCanonical := hcanonical }
  | dup2 | nearest =>
    rw [State.storedSrc, hfn]
    exact { refl s with
      flushedViewsAgree := fun h => by simpa [State.FlushedViewsAgree, State.xsrcMem, State.xsrcCpu, hfn] using h
      memoryCanonical := hcanonical }

/-- R142: a store into `SCRATCH.cpu`, with its ghost effects. -/
theorem storedScratch (f : Nat → Option Byte) :
    s.Keeps (State.storedXsrc { s with scratchCpu := Memory.fill s.board.outSize f s.scratchCpu }) :=
  { refl s with
    flushedViewsAgree := fun h => ⟨nofun, h.2⟩
    untaintedIsFlushed := State.UntaintedIsFlushed.storedXsrc
    memoryCanonical := fun ⟨hfb0, hfb1, hsrc, hsrcMem, hscratch, hrest⟩ =>
      ⟨hfb0, hfb1, hsrc, hsrcMem, Memory.canonical_fill f hscratch, hrest⟩ }

/-- R143: the flush of XSRC. -/
theorem flushedXsrc (s : State) : s.Keeps { s.setXsrcMem s.xsrcCpu with srcClean := true } := by
  cases hfn : s.board.scaleFn with
  | identity =>
    simp only [State.setXsrcMem, State.xsrcCpu, hfn]
    exact { refl s with
      flushedViewsAgree := fun h => ⟨fun _ => by simp [State.xsrcMem, State.xsrcCpu, hfn], h.2⟩
      untaintedIsFlushed := fun h => ⟨fun _ _ => rfl, h.2⟩
      memoryCanonical := fun ⟨hfb0, hfb1, hsrc, _, hrest⟩ => ⟨hfb0, hfb1, hsrc, hsrc, hrest⟩ }
  | dup2 | nearest =>
    simp only [State.setXsrcMem, State.xsrcCpu, hfn]
    exact { refl s with
      flushedViewsAgree := fun h => ⟨fun _ => by simp [State.xsrcMem, State.xsrcCpu, hfn], h.2⟩
      untaintedIsFlushed := fun h => ⟨fun _ _ => rfl, h.2⟩
      memoryCanonical := fun ⟨hfb0, hfb1, hsrc, hsrcMem, hscratch, _, hrest⟩ =>
        ⟨hfb0, hfb1, hsrc, hsrcMem, hscratch, hscratch, hrest⟩ }

/-- R151: a store into `CLUT_MEM.cpu` taints the load in flight. -/
theorem builtClut (s : State) (f : Nat → Option ClutEntry) :
    s.Keeps { s with
      clutCpu := Memory.fill 256 f s.clutCpu
      clutClean := false
      palTaint := if s.LoadInFlight then true else s.palTaint } where
  __ := refl s
  flushedViewsAgree := fun h => ⟨h.1, nofun⟩
  untaintedIsFlushed := fun h => ⟨h.1, fun hflight hclean => nomatch (if_pos hflight).symm.trans hclean⟩
  memoryCanonical := fun ⟨hfb0, hfb1, hsrc, hsrcMem, hscratch, hscratchMem, hpal, hclut, hclutMem⟩ =>
    ⟨hfb0, hfb1, hsrc, hsrcMem, hscratch, hscratchMem, hpal, Memory.canonical_fill f hclut, hclutMem⟩

/-- R152: the flush of CLUT_MEM. -/
theorem flushedClut (s : State) : s.Keeps { s with clutMem := s.clutCpu, clutClean := true } where
  __ := refl s
  flushedViewsAgree := fun h => ⟨h.1, fun _ => rfl⟩
  untaintedIsFlushed := fun h => ⟨h.1, fun _ _ => rfl⟩
  memoryCanonical := fun ⟨hfb0, hfb1, hsrc, hsrcMem, hscratch, hscratchMem, hpal, hclut, _⟩ =>
    ⟨hfb0, hfb1, hsrc, hsrcMem, hscratch, hscratchMem, hpal, hclut, hclut⟩

/-! ### Registers -/

theorem rsp (s : State) (w : Word32) : s.Keeps { s with rsp := w } := { refl s with }

theorem setKey (s : State) (k : Byte) (e : KeyEntry) : s.Keeps (s.setKey k e) := { refl s with }

theorem respond (s : State) (v : Nat) : s.Keeps (s.respond v) := by
  unfold State.respond
  split <;> exact { refl s with }

/-- R114: the refresh handler, whose interrupt is off in `Failed`. -/
theorem refreshBody (h : s.RefreshEnabled) : s.Keeps s.refreshBody := by
  have hmessage : s.FailedShowsMessage → s.sysState ≠ .failed := fun hs hfailed =>
    nomatch h.1.symm.trans (hs hfailed).1
  unfold State.refreshBody State.consumeFrame
  split
  · exact { refl s with
      displayTracksVisible := fun _ => rfl
      countersInWidth := fun hs => ⟨bumpCounter_lt _ _, hs.2⟩
      enabledIsArmed := fun _ _ => rfl
      failedShowsMessage := fun hs hfailed => absurd hfailed (hmessage hs) }
  · exact { refl s with
      countersInWidth := fun hs => ⟨bumpCounter_lt _ _, hs.2⟩
      enabledIsArmed := fun _ _ => rfl }

/-- R181 -/
theorem pushByte (s : State) (b : Byte) : s.Keeps (s.pushByte b) := by
  unfold State.pushByte
  split
  · exact { refl s with
      ringInBounds := fun ⟨hbuf, hhead, _⟩ => ⟨by simpa using hbuf, hhead, by assumption⟩ }
  · exact refl s

/-- R182 -/
theorem popped (s : State) : s.Keeps s.popped :=
  { refl s with
    ringInBounds := fun ⟨hbuf, hhead, hcount⟩ =>
      ⟨hbuf, Nat.mod_lt _ (Nat.zero_lt_of_lt hhead), (Nat.sub_le _ _).trans hcount⟩ }

/-- Phase 1 of KDB.POLL (R184). -/
theorem drain (n : Nat) (s : State) : s.Keeps (State.drain n s).2 := by
  induction n generalizing s with
  | zero => exact refl s
  | succ n ih =>
    unfold State.drain
    split
    · exact popped s
    · exact (popped s).trans (ih _)

/-- Phase 2 of KDB.POLL (R184). -/
theorem expireKey (s : State) : s.Keeps s.expireKey := by
  unfold State.expireKey
  split
  · exact { refl s with }
  · exact rsp s 0

/-- The renderer heartbeat of SYS.CHECK (R201). -/
theorem checkProgress (s : State) : s.Keeps s.checkProgress := by
  unfold State.checkProgress
  split_ifs with hmoved hlate
  · exact { refl s with
      countersInWidth := fun ⟨hrefresh, hprogress, hseen, _⟩ => ⟨hrefresh, hprogress, hseen, hprogress⟩ }
  · exact { refl s with
      resetRequestedOnce := fun hs => by simpa [State.ResetRequestedOnce, hlate.2] using hs }
  · exact refl s

/-- R154, R155: a load that ends, well or not. -/
theorem loadEnded {done : Bool} (hw : Vector ClutEntry 256) (valid err : Bool)
    (hdone : done = false → s.palDone = false) :
    s.Keeps { s.drew with clutHw := hw, clutValid := valid, palDone := done, palErr := err } :=
  { refl s with untaintedIsFlushed := fun hs => ⟨hs.1, fun ⟨hbusy, hopen⟩ => hs.2 ⟨hbusy, hdone hopen⟩⟩ }

/-! ### The fatal entry and the held waits -/

/-- R204: the fatal entry, but for one raised in `Halted` with FG awake. -/
theorem fatalEntry (c : Byte) (hs : s.sysState = .halted → s.fgHold ≠ .none) : s.Keeps (s.fatalEntry c) := by
  cases hlatched : s.alreadyFailed with
  | true => rw [State.fatalEntry_latched c hlatched]; exact rsp s 0
  | false =>
    have hregisters : s.Keeps (s.failing c) :=
      { refl s with
        staysStopped := fun hstopped hlatch hhold => by
          cases hstate : s.sysState with
          | normal => exact absurd hstate hstopped
          | failed => cases hlatched.symm.trans (hlatch.mpr hstate)
          | halted => exact absurd hhold (hs hstate)
        heldOnlyInNormal := fun _ => .inl rfl
        displayTracksVisible := fun _ => rfl
        latchMatchesFailed := fun _ => iff_of_true rfl rfl
        enabledIsArmed := fun _ => nofun
        failedShowsMessage := fun _ _ => ⟨rfl, rfl⟩ }
    rw [State.fatalEntry_unlatched c hlatched]
    exact hregisters.trans (fillFb fun i p hp => by cases hp; exact fit_lt s.board _)

/-- A wait that completes (R113, R146, R156). -/
theorem waitCompleted (s : State) (h : FgHold) : s.Keeps (s.waitCompleted h) := by
  cases h with
  | none => exact refl s
  | fscWait =>
    exact { refl s with
      staysStopped := fun _ _ _ => ⟨rfl, rfl, rfl⟩
      heldOnlyInNormal := fun _ => .inl rfl }
  | bseWait =>
    exact { refl s with
      staysStopped := fun _ _ _ => ⟨rfl, rfl, rfl⟩
      heldOnlyInNormal := fun _ => .inl rfl
      untaintedIsFlushed := fun hs => ⟨nofun, hs.2⟩
      oneUnitOperation := fun _ => nofun }
  | palWait =>
    exact { refl s with
      staysStopped := fun _ _ _ => ⟨rfl, rfl, rfl⟩
      heldOnlyInNormal := fun _ => .inl rfl
      untaintedIsFlushed := fun hs => ⟨hs.1, nofun⟩
      oneUnitOperation := fun _ => nofun }

/-- One evaluation of a wait (R9): on issue, in `Normal`, or of the wait held. -/
theorem evalWait (h : FgHold) (hs : s.sysState = .normal ∨ s.fgHold = h) : s.Keeps (s.evalWait h) := by
  rcases s.evalWait_cases h with ⟨-, e⟩ | ⟨c, ho, e⟩ | ⟨-, e⟩ <;> rw [e]
  · exact waitCompleted s h
  · refine fatalEntry c fun hhalted hawake => ?_
    rcases hs with hnormal | rfl
    · cases hnormal.symm.trans hhalted
    · rw [hawake] at ho; cases ho
  · exact { refl s with
      staysStopped := fun hstopped _ hhold => ⟨rfl, rfl, (hs.resolve_left hstopped).symm.trans hhold⟩
      heldOnlyInNormal := fun hheld => hs.elim .inr fun hsame => hsame ▸ hheld }

/-- The end of a step of an agent other than FG (R9). -/
theorem reevaluate (h : s.Keeps t) : s.Keeps t.reevaluate := h.trans (evalWait _ (.inr rfl))

/-- The display heartbeat of SYS.CHECK (R201). -/
theorem checkRefresh (hs : s.sysState ≠ .halted) : s.Keeps s.checkRefresh := by
  unfold State.checkRefresh
  split_ifs
  · exact { refl s with
      countersInWidth := fun ⟨hrefresh, hprogress, _, hseen⟩ => ⟨hrefresh, hprogress, hrefresh, hseen⟩ }
  · exact fatalEntry 3 fun hhalted => absurd hhalted hs
  · exact rsp s 0

end State.Keeps

/-- The renderer heartbeat of SYS.CHECK writes none of these. -/
@[simp] theorem State.checkProgress_fields (s : State) :
    s.checkProgress.sysState = s.sysState ∧ s.checkProgress.alreadyFailed = s.alreadyFailed
      ∧ s.checkProgress.fgHold = s.fgHold ∧ s.checkProgress.visibleIndex = s.visibleIndex
      ∧ s.checkProgress.drawIndex = s.drawIndex := by
  unfold State.checkProgress
  split_ifs <;> (repeat' constructor)

/-! ## What a step keeps -/

/-- Every operation but ENV.RESET keeps each invariant. -/
theorem exec_ensures_keeps {i : Instr} (hi : i ≠ .envReset) (s : State) : Ensures (exec i s) s.Keeps := by
  cases i with
  | envReset => exact absurd rfl hi
  | envClk n => exact ensures_thenReevaluate.mpr (.reevaluate { State.Keeps.refl s with })
  | envEtick =>
    exact ensures_withRenderer (ensures_thenReevaluate.mpr (.reevaluate
      { State.Keeps.refl s with
        countersInWidth := fun ⟨hrefresh, _, hseen⟩ => ⟨hrefresh, bumpCounter_lt _ _, hseen⟩ }))
  | envSrcfill v =>
    exact ensures_withRenderer (ensures_thenReevaluate.mpr (.reevaluate (.storedSrc (Memory.canonical_fill _))))
  | fscBegin | fscRdcnt => exact ensures_withFg (ensures_next.mpr (.respond s _))
  | fscSubmit | fscSetmode _ | fscRdstat | sysTelem =>
    exact ensures_withFg (ensures_next.mpr { State.Keeps.refl s with })
  | fscWait | bseWait | bsePalwait =>
    exact ensures_withFg_of fun hs => ensures_next.mpr (.evalWait _ (.inl hs.1))
  | fscRefresh =>
    refine ensures_thenReevaluate.mpr (.reevaluate ?_)
    split
    · exact .refreshBody ‹_›
    · exact .refl s
  | fscIrqctl e =>
    exact ensures_withFg_of fun hs => ensures_next.mpr { State.Keeps.refl s with
      enabledIsArmed := fun _ he => if_pos he
      failedShowsMessage := fun _ hfailed => nomatch hs.1.symm.trans hfailed }
  | fscForcevis k =>
    exact ensures_withFg_of fun hs => ensures_next.mpr { State.Keeps.refl s with
      displayTracksVisible := fun _ => rfl
      failedShowsMessage := fun _ hfailed => nomatch hs.1.symm.trans hfailed }
  | bseScale =>
    refine ensures_withFg (ensures_next.mpr ?_)
    split
    · exact .rsp s 0
    all_goals exact (State.Keeps.storedScratch _).trans { State.Keeps.refl _ with }
  | bseFlush => exact ensures_withFg (ensures_next.mpr ((State.Keeps.flushedXsrc s).trans (.rsp _ 0)))
  | bseStart =>
    exact ensures_withFg (ensures_ite_of (fun _ => ensures_refused) fun hidle => ensures_next.mpr
      { State.Keeps.refl s with
        untaintedIsFlushed := fun hs => ⟨by simp, hs.2⟩
        oneUnitOperation := fun _ ⟨_, hload⟩ => hidle (.inr hload) })
  | bseDone =>
    refine ensures_ite (ensures_thenReevaluate.mpr (.reevaluate ?_)) ensures_refused
    exact (State.Keeps.fillFb fun _ _ => State.transferPixel_lt).trans { State.Keeps.refl _ with
      untaintedIsFlushed := fun hs => ⟨nofun, hs.2⟩ }
  | bsePalbuild =>
    exact ensures_withFg (ensures_next.mpr ((State.Keeps.builtClut s _).trans { State.Keeps.refl _ with }))
  | bsePalflush => exact ensures_withFg (ensures_next.mpr ((State.Keeps.flushedClut s).trans (.rsp _ 0)))
  | bsePalload =>
    exact ensures_withFg (ensures_ite_of (fun _ => ensures_refused) fun hidle => ensures_next.mpr
      { State.Keeps.refl s with
        untaintedIsFlushed := fun hs => ⟨hs.1, by simp⟩
        oneUnitOperation := fun _ ⟨htransfer, _⟩ => hidle (.inl htransfer) })
  | bsePaldone =>
    exact ensures_ite (ensures_thenReevaluate.mpr (.reevaluate (.loadEnded _ _ _ nofun))) ensures_refused
  | bsePalerr =>
    exact ensures_ite (ensures_thenReevaluate.mpr (.reevaluate (.loadEnded _ _ _ id))) ensures_refused
  | kdbRx b => exact ensures_thenReevaluate.mpr (.reevaluate (.pushByte s b))
  | kdbPoll =>
    refine ensures_withFg (ensures_next.mpr ?_)
    have hdrain := State.Keeps.drain s.ringCount s
    split
    · rename_i h
      rw [h] at hdrain
      exact hdrain.trans ((State.Keeps.setKey _ _ _).trans (.rsp _ _))
    · rename_i h
      rw [h] at hdrain
      exact hdrain.trans (.expireKey _)
  | sysCheck =>
    exact ensures_withFg_of fun hs => ensures_next.mpr
      ((State.Keeps.checkProgress s).trans (.checkRefresh (by simp [hs.1])))
  | sysFatal c =>
    exact ensures_ite ensures_refused (ensures_ite_of
      (fun hs => ensures_next.mpr (.fatalEntry c fun hhalted => absurd hhalted hs.1)) fun _ => ensures_refused)
  | sysFloop => exact ensures_ite (ensures_next.mpr { State.Keeps.refl s with }) ensures_refused
  | sysInitfail =>
    exact ensures_withFg_of fun hs => ensures_next.mpr { State.Keeps.refl s with
      staysStopped := fun hstopped => absurd hs.1 hstopped
      heldOnlyInNormal := fun _ => .inl hs.2
      latchMatchesFailed := fun hlatch =>
        iff_of_false (fun hset => nomatch hs.1.symm.trans (hlatch.mp hset)) nofun
      failedShowsMessage := fun _ => nofun }

/-- A renderer's store that has no word keeps each invariant (R214). -/
theorem runInput_store_ensures_keeps {inp : Input} (hinp : ∀ w, inp ≠ .word w) (s : State) :
    Ensures (runInput inp s) s.Keeps := by
  cases inp with
  | word w => exact absurd rfl (hinp w)
  | drawPixels k stores =>
    refine ensures_withRenderer ?_
    split
    · exact ensures_fault
    · rename_i hinside
      refine ensures_thenReevaluate.mpr (.reevaluate (.setFb (Memory.canonical_writeAll ?_) fun hfit e he => ?_))
      · intro e he
        obtain ⟨st, hst, rfl⟩ := List.mem_map.mp he
        exact lt_of_firstOutside_none hinside st hst
      · rcases Memory.mem_writeAll _ _ e he with hnew | hold
        · obtain ⟨st, -, rfl⟩ := List.mem_map.mp hnew
          exact fit_lt s.board st.2
        · exact hfit e hold
  | drawSource stores =>
    refine ensures_withRenderer ?_
    split
    · exact ensures_fault
    · rename_i hinside
      refine ensures_thenReevaluate.mpr (.reevaluate ?_)
      split
      · exact .refl s
      · exact .storedSrc (Memory.canonical_writeAll (lt_of_firstOutside_none hinside))
  | setPalette stores =>
    have hinside : ∀ st ∈ stores.map (fun st : Byte × Rgb => (st.1.toNat, st.2)), st.1 < 256 := by
      intro st hst
      obtain ⟨q, -, rfl⟩ := List.mem_map.mp hst
      exact q.1.isLt
    exact ensures_withRenderer (ensures_thenReevaluate.mpr (.reevaluate { State.Keeps.refl s with
      memoryCanonical := fun ⟨hfb0, hfb1, hsrc, hsrcMem, hscratch, hscratchMem, hpal, hclut⟩ =>
        ⟨hfb0, hfb1, hsrc, hsrcMem, hscratch, hscratchMem, Memory.canonical_writeAll hinside hpal, hclut⟩ }))

/-! ## What KDB.POLL and SYS.CHECK leave -/

/-- KDB.POLL writes none of these. -/
theorem exec_kdbPoll_fields (s : State) :
    Ensures (exec .kdbPoll s) fun t =>
      t.fgHold = s.fgHold ∧ t.alreadyFailed = s.alreadyFailed ∧ t.visibleIndex = s.visibleIndex
        ∧ t.drawIndex = s.drawIndex := by
  refine ensures_withFg (ensures_next.mpr ?_)
  have hdrain := State.drain_fields s.ringCount s
  split
  · simp_all
  · unfold State.expireKey
    split <;> simp_all

/-- The display heartbeat of SYS.CHECK is the fatal entry, or writes none of these (R201). -/
theorem State.checkRefresh_cases (s : State) :
    s.checkRefresh = s.fatalEntry 3
      ∨ (s.checkRefresh.fgHold = s.fgHold ∧ s.checkRefresh.alreadyFailed = s.alreadyFailed
          ∧ s.checkRefresh.visibleIndex = s.visibleIndex ∧ s.checkRefresh.drawIndex = s.drawIndex) := by
  unfold State.checkRefresh
  split_ifs
  · exact .inr ⟨rfl, rfl, rfl, rfl⟩
  · exact .inl rfl
  · exact .inr ⟨rfl, rfl, rfl, rfl⟩

/-! ## What a step leaves held (R9) -/

/-- No wait is held, or one whose outcome is still open. -/
def State.HoldOpen (s : State) : Prop := s.fgHold = .none ∨ s.waitOutcome s.fgHold = .held

/-- One evaluation of a wait ends it, or finds its outcome open. -/
theorem State.evalWait_holdOpen {s : State} {h : FgHold} (hlatch : s.alreadyFailed = true → s.fgHold = .none)
    (hnone : h = .none → s.fgHold = .none) : (s.evalWait h).HoldOpen := by
  rcases s.evalWait_cases h with ⟨-, e⟩ | ⟨c, -, e⟩ | ⟨ho, e⟩ <;> rw [e]
  · left
    cases h
    case none => exact hnone rfl
    all_goals rfl
  · exact .inl (State.fatalEntry_fgHold c hlatch)
  · right
    cases h <;> exact ho

theorem State.reevaluate_holdOpen {s : State} (hlatch : s.alreadyFailed = true → s.fgHold = .none) :
    s.reevaluate.HoldOpen := evalWait_holdOpen hlatch id

/-- A held wait whose outcome is open is justified. -/
theorem State.HoldOpen.holdJustified {s : State} (h : s.HoldOpen) (hs : s.HeldOnlyInNormal) : s.HoldJustified := by
  rcases h with hnone | hheld
  · exact .inl hnone
  refine hs.imp_right fun hnormal => ⟨hnormal, ?_⟩
  rcases State.waitOutcome_held hheld with hframe | ⟨hwait, hbusy, hdone, -⟩ | ⟨hwait, hbusy, hdone, herr, -⟩
  · exact .inl hframe
  · exact .inr (.inl ⟨hwait, hbusy, hdone⟩)
  · exact .inr (.inr ⟨hwait, hbusy, hdone, herr⟩)

/-- An operation of FG meets no held wait, and leaves none held but one whose outcome is open. -/
theorem exec_fg_ensures_holdOpen {i : Instr} (hi : i.agent = .fg) (s : State) :
    Ensures (exec i s) State.HoldOpen := by
  cases i with
  | envClk _ | envEtick | envSrcfill _ | envReset | fscRefresh | bseDone | bsePaldone | bsePalerr | kdbRx _ => cases hi
  | fscWait | bseWait | bsePalwait =>
    exact ensures_withFg_of fun hs => ensures_next.mpr (State.evalWait_holdOpen (fun _ => hs.2) fun _ => hs.2)
  | fscSubmit | fscSetmode _ | fscIrqctl _ | fscForcevis _ | fscRdstat | bsePalbuild | bsePalflush | sysTelem
  | sysInitfail => exact ensures_withFg_of fun hs => ensures_next.mpr (.inl hs.2)
  | fscBegin | fscRdcnt | bseFlush => exact ensures_withFg_of fun hs => ensures_next.mpr (.inl (by simp [hs.2]))
  | bseStart | bsePalload =>
    exact ensures_withFg_of fun hs => ensures_ite ensures_refused (ensures_next.mpr (.inl hs.2))
  | bseScale =>
    refine ensures_withFg_of fun hs => ensures_next.mpr (.inl ?_)
    split <;> exact hs.2
  | kdbPoll =>
    intro t ht
    obtain ⟨hhold, -⟩ := exec_kdbPoll_fields s t ht
    exact .inl (hhold.trans (withFg_next.mp ht).1.2)
  | sysCheck =>
    refine ensures_withFg_of fun hs => ensures_next.mpr (.inl ?_)
    have hnone : s.checkProgress.fgHold = .none := by simp [hs.2]
    rcases s.checkProgress.checkRefresh_cases with e | ⟨hhold, -⟩
    · rw [e]
      exact State.fatalEntry_fgHold 3 fun _ => hnone
    · exact hhold.trans hnone
  | sysFatal c =>
    exact ensures_ite ensures_refused (ensures_ite_of
      (fun hs => ensures_next.mpr (.inl (State.fatalEntry_fgHold c fun _ => hs.2))) fun _ => ensures_refused)
  | sysFloop => exact ensures_ite_of (fun hs => ensures_next.mpr (.inl hs.2)) fun _ => ensures_refused

/-- No operation leaves a wait held whose outcome is settled. -/
theorem exec_ensures_holdOpen (i : Instr) {s : State} (hs : s.alreadyFailed = true → s.fgHold = .none) :
    Ensures (exec i s) State.HoldOpen := by
  by_cases hi : i.agent = .fg
  · exact exec_fg_ensures_holdOpen hi s
  · intro t h
    obtain ⟨u, rfl, -, ⟨hfailed, hhold⟩ | rfl⟩ := exec_next_of_agent_ne_fg hi h
    · exact State.reevaluate_holdOpen (by rwa [hfailed, hhold])
    · exact .inl rfl

/-! ## Whether the draw and the visible buffer stay apart (R31 (d)) -/

/-- The draw buffer is not the visible one. -/
def State.BuffersApart (s : State) : Prop := s.visibleIndex = 1 - s.drawIndex

/-- Buffers apart stay apart, unless the fatal entry is taken for the first time. -/
def State.StaysApart (s t : State) : Prop :=
  (s.alreadyFailed = false ∧ t.alreadyFailed = true)
    ∨ (t.alreadyFailed = s.alreadyFailed ∧ (s.BuffersApart → t.BuffersApart))

theorem State.StaysApart.fatalEntry {s t : State} (h : s.StaysApart t) (c : Byte) : s.StaysApart (t.fatalEntry c) := by
  cases hlatched : t.alreadyFailed with
  | true => rw [State.fatalEntry_latched c hlatched]; exact h
  | false =>
    obtain ⟨hfailed, -⟩ := State.fatalEntry_first c hlatched
    rcases h with ⟨-, hset⟩ | ⟨hsame, -⟩
    · cases hlatched.symm.trans hset
    · exact .inl ⟨hsame.symm.trans hlatched, hfailed⟩

theorem State.StaysApart.evalWait {s t : State} (h : s.StaysApart t) (w : FgHold) : s.StaysApart (t.evalWait w) := by
  rcases t.evalWait_cases w with ⟨-, e⟩ | ⟨c, -, e⟩ | ⟨-, e⟩ <;> rw [e]
  · cases w <;> exact h
  · exact h.fatalEntry c
  · exact h

theorem State.StaysApart.reevaluate {s t : State} (h : s.StaysApart t) : s.StaysApart t.reevaluate := h.evalWait _

theorem State.StaysApart.of_eq {s t : State} (hfailed : t.alreadyFailed = s.alreadyFailed := by simp)
    (hvisible : t.visibleIndex = s.visibleIndex := by simp) (hdraw : t.drawIndex = s.drawIndex := by simp) :
    s.StaysApart t :=
  .inr ⟨hfailed, fun h => by rw [State.BuffersApart, hvisible, hdraw]; exact h⟩

theorem State.StaysApart.refl (s : State) : s.StaysApart s := .inr ⟨rfl, id⟩

/-- The refresh handler swaps the buffers (R114). -/
theorem State.StaysApart.refreshBody {s : State} (hdouble : s.doubleBufferEnabled = true) :
    s.StaysApart s.refreshBody := by
  refine .inr ⟨by simp, fun h => ?_⟩
  cases hframe : s.frameReady with
  | true => simp [State.BuffersApart, State.refreshBody, State.consumeFrame, hframe, hdouble]
  | false => simpa [State.BuffersApart, State.refreshBody, hframe] using h

/-- Under double buffering no operation but FSC.FORCEVIS and ENV.RESET brings the buffers together (R31 (d)). -/
theorem exec_ensures_staysApart {i : Instr} (hreset : i ≠ .envReset) (hforce : ∀ k, i ≠ .fscForcevis k) {s : State}
    (hdouble : s.doubleBufferEnabled = true) : Ensures (exec i s) s.StaysApart := by
  cases i with
  | envReset => exact absurd rfl hreset
  | fscForcevis k => exact absurd rfl (hforce k)
  | envClk n => exact ensures_thenReevaluate.mpr (.reevaluate (.inr ⟨rfl, id⟩))
  | envEtick => exact ensures_withRenderer (ensures_thenReevaluate.mpr (.reevaluate (.inr ⟨rfl, id⟩)))
  | envSrcfill v =>
    exact ensures_withRenderer (ensures_thenReevaluate.mpr (.reevaluate .of_eq))
  | fscRefresh =>
    refine ensures_thenReevaluate.mpr (.reevaluate ?_)
    split
    · exact .refreshBody hdouble
    · exact .refl s
  | kdbRx b => exact ensures_thenReevaluate.mpr (.reevaluate .of_eq)
  | bseDone =>
    exact ensures_ite (ensures_thenReevaluate.mpr (.reevaluate .of_eq)) ensures_refused
  | bsePaldone | bsePalerr =>
    exact ensures_ite (ensures_thenReevaluate.mpr (.reevaluate (.of_eq rfl rfl rfl))) ensures_refused
  | fscWait | bseWait | bsePalwait => exact ensures_withFg (ensures_next.mpr (.evalWait (.refl s) _))
  | fscSubmit | fscSetmode _ | fscIrqctl _ | fscRdstat | bsePalbuild | bsePalflush | sysTelem
  | sysInitfail => exact ensures_withFg (ensures_next.mpr (.of_eq rfl rfl rfl))
  | fscBegin | fscRdcnt | bseFlush =>
    exact ensures_withFg (ensures_next.mpr .of_eq)
  | bseStart | bsePalload =>
    exact ensures_withFg (ensures_ite ensures_refused (ensures_next.mpr (.of_eq rfl rfl rfl)))
  | bseScale =>
    refine ensures_withFg (ensures_next.mpr ?_)
    split <;> exact .of_eq rfl rfl rfl
  | kdbPoll =>
    intro t ht
    obtain ⟨-, hfailed, hvisible, hdraw⟩ := exec_kdbPoll_fields s t ht
    exact .of_eq hfailed hvisible hdraw
  | sysCheck =>
    refine ensures_withFg (ensures_next.mpr ?_)
    have hprogress : s.StaysApart s.checkProgress := .of_eq
    rcases s.checkProgress.checkRefresh_cases with e | ⟨-, hfailed, hvisible, hdraw⟩
    · rw [e]
      exact hprogress.fatalEntry 3
    · exact .of_eq (by simp [hfailed]) (by simp [hvisible]) (by simp [hdraw])
  | sysFatal c =>
    exact ensures_ite ensures_refused (ensures_ite (ensures_next.mpr (.fatalEntry (.refl s) c)) ensures_refused)
  | sysFloop => exact ensures_ite (ensures_next.mpr (.of_eq rfl rfl rfl)) ensures_refused

/-! ## The step -/

/-- A renderer's store that has no word leaves no wait held and the buffers where they are (R214). -/
theorem runInput_store_ensures {inp : Input} (hinp : ∀ w, inp ≠ .word w) (s : State) :
    Ensures (runInput inp s) fun t => t.HoldOpen ∧ s.StaysApart t := by
  cases inp with
  | word w => exact absurd rfl (hinp w)
  | drawPixels k stores =>
    refine ensures_withRenderer_of fun hs => ?_
    split
    · exact ensures_fault
    · exact ensures_thenReevaluate.mpr
        ⟨State.reevaluate_holdOpen fun _ => by simp [hs.2], .reevaluate .of_eq⟩
  | drawSource stores =>
    refine ensures_withRenderer_of fun hs => ?_
    split
    · exact ensures_fault
    · refine ensures_thenReevaluate.mpr ?_
      split
      · exact ⟨State.reevaluate_holdOpen fun _ => hs.2, .reevaluate (.refl s)⟩
      · exact ⟨State.reevaluate_holdOpen fun _ => by simp [hs.2], .reevaluate .of_eq⟩
  | setPalette stores =>
    exact ensures_withRenderer_of fun hs => ensures_thenReevaluate.mpr
      ⟨State.reevaluate_holdOpen fun _ => hs.2, .reevaluate (.of_eq rfl rfl rfl)⟩

/-- R101, R214: a step is idle, or the next word's operation, or a renderer's store. -/
theorem step_next {s t : State} (h : step s = .next t) :
    t = s
      ∨ (∃ w rest i, s.trace = .word w :: rest ∧ decode w = .ok i ∧ exec i { s with trace := rest } = .next t)
      ∨ ∃ inp rest, s.trace = inp :: rest ∧ (∀ w, inp ≠ .word w) ∧ runInput inp { s with trace := rest } = .next t := by
  unfold step at h
  split at h
  · exact .inl (by cases h; rfl)
  · rename_i inp rest htrace
    split_ifs at h
    cases inp with
    | word w =>
      cases hdecode : decode w with
      | error e => simp [runInput, hdecode] at h
      | ok i => exact .inr (.inl ⟨w, rest, i, htrace, hdecode, by simpa [runInput, hdecode] using h⟩)
    | drawPixels _ _ | drawSource _ | setPalette _ => exact .inr (.inr ⟨_, rest, htrace, nofun, h⟩)

/-- ENV.RESET ends in the reset state (R213). -/
theorem exec_envReset_next {s t : State} (h : exec .envReset s = .next t) :
    t = State.resetWith s.board s.trace s.draws := thenReevaluate_next.mp h

/-- Every step keeps each invariant, or ends in the reset state. -/
theorem step_keeps {s t : State} (h : step s = .next t) :
    s.Keeps t ∨ ∃ trace draw, t = State.resetWith s.board trace draw := by
  have htaken (rest : List Input) : s.Keeps { s with trace := rest } := { State.Keeps.refl s with }
  rcases step_next h with rfl | ⟨w, rest, i, -, -, h⟩ | ⟨inp, rest, -, hinp, h⟩
  · exact .inl (.refl t)
  · by_cases hreset : i = .envReset
    · subst hreset
      have hend := exec_envReset_next h
      exact .inr ⟨_, _, hend⟩
    · exact .inl ((htaken rest).trans (exec_ensures_keeps hreset _ t h))
  · exact .inl ((htaken rest).trans (runInput_store_ensures_keeps hinp _ t h))

/-- A step that is not idle leaves no wait held whose outcome is settled. -/
theorem step_holdOpen {s t : State} (h : step s = .next t) (hs : s.alreadyFailed = true → s.fgHold = .none) :
    t = s ∨ t.HoldOpen := by
  rcases step_next h with rfl | ⟨w, rest, i, -, -, h⟩ | ⟨inp, rest, -, hinp, h⟩
  · exact .inl rfl
  · exact .inr (exec_ensures_holdOpen i (s := { s with trace := rest }) hs t h)
  · exact .inr (runInput_store_ensures hinp _ t h).1

/-! ## The invariant -/

theorem ringCap_pos {b : Board} (h : b.wf = true) : 0 < b.ringCap := by
  simp only [Board.wf, Bool.and_eq_true, decide_eq_true_eq] at h
  omega

/-- The reset state of an admitted board meets the invariant (R271, R272). -/
theorem State.resetWith_inv {b : Board} (trace : List Input) (draw : Nat) (h : b.wf = true) :
    (State.resetWith b trace draw).Inv where
  boardAdmitted := h
  displayTracksVisible := rfl
  latchMatchesFailed := iff_of_false nofun nofun
  holdJustified := .inl rfl
  flushedViewsAgree := ⟨nofun, nofun⟩
  untaintedIsFlushed := ⟨nofun, nofun⟩
  oneUnitOperation := nofun
  ringInBounds := ⟨by simp [State.resetWith], ringCap_pos h, Nat.zero_le _⟩
  countersInWidth := by simp [State.resetWith]
  enabledIsArmed := nofun
  resetRequestedOnce := rfl
  failedShowsMessage := nofun
  memoryCanonical := by simp [State.resetWith, Memory.wf, Memory.below]
  pixelsFit := by simp [State.resetWith]

/-- A held wait is justified, so it is held in `Normal` only. -/
theorem State.HoldJustified.heldOnlyInNormal {s : State} (h : s.HoldJustified) : s.HeldOnlyInNormal :=
  h.imp_right And.left

/-- FG is awake where the state is not `Normal`. -/
theorem State.HoldJustified.awake {s : State} (h : s.HoldJustified) (hs : s.sysState ≠ .normal) : s.fgHold = .none :=
  h.heldOnlyInNormal.resolve_right hs

/-- Where each invariant is kept and the hold is open, all of them hold. -/
theorem State.Inv.of_keeps {s t : State} (hs : s.Inv) (h : s.Keeps t) (hopen : t.HoldOpen) : t.Inv where
  boardAdmitted := by rw [State.BoardAdmitted, h.board]; exact hs.boardAdmitted
  displayTracksVisible := h.displayTracksVisible hs.displayTracksVisible
  latchMatchesFailed := h.latchMatchesFailed hs.latchMatchesFailed
  holdJustified := hopen.holdJustified (h.heldOnlyInNormal hs.holdJustified.heldOnlyInNormal)
  flushedViewsAgree := h.flushedViewsAgree hs.flushedViewsAgree
  untaintedIsFlushed := h.untaintedIsFlushed hs.untaintedIsFlushed
  oneUnitOperation := h.oneUnitOperation hs.oneUnitOperation
  ringInBounds := h.ringInBounds hs.ringInBounds
  countersInWidth := h.countersInWidth hs.countersInWidth
  enabledIsArmed := h.enabledIsArmed hs.enabledIsArmed
  resetRequestedOnce := h.resetRequestedOnce hs.resetRequestedOnce
  failedShowsMessage := h.failedShowsMessage hs.failedShowsMessage
  memoryCanonical := h.memoryCanonical hs.memoryCanonical
  pixelsFit := h.pixelsFit hs.pixelsFit

/-- With the latch set no wait is held. -/
theorem State.Inv.awake_of_latched {s : State} (hs : s.Inv) (hlatched : s.alreadyFailed = true) : s.fgHold = .none :=
  hs.holdJustified.awake (by simp [hs.latchMatchesFailed.mp hlatched])

/-! ## The terminal states (R43, R44) -/

/-- R204: SYS.FATAL runs only where FG can issue it. -/
theorem exec_sysFatal_next {c : Byte} {s t : State} (h : exec (.sysFatal c) s = .next t) : s.FatalEnabled := by
  simp only [exec, execSysFatal] at h
  split_ifs at h
  assumption

/-- Outside `Normal` FG can issue only SYS.FLOOP and SYS.FATAL, and these only in `Failed` (R14, R204, R205). -/
theorem exec_fg_next_of_stopped {i : Instr} {s t : State} (hi : i.agent = .fg) (hs : s.sysState ≠ .normal)
    (h : exec i s = .next t) : s.sysState = .failed ∧ (i = .sysFloop ∨ ∃ c, i = .sysFatal c) := by
  by_cases hfloop : i = .sysFloop
  · subst hfloop
    by_cases hon : s.FloopEnabled
    · exact ⟨hon.1, .inl rfl⟩
    · cases h.symm.trans (exec_sysFloop_refused hon)
  by_cases hfatal : ∃ c, i = .sysFatal c
  · refine ⟨?_, .inr hfatal⟩
    obtain ⟨c, rfl⟩ := hfatal
    obtain ⟨hrun, -⟩ := exec_sysFatal_next h
    cases hstate : s.sysState with
    | normal => exact absurd hstate hs
    | failed => rfl
    | halted => exact absurd hstate hrun
  · cases h.symm.trans (exec_refused_of_not_fgEnabled hi hfloop (not_exists.mp hfatal) fun hon => hs hon.1)

end Sys2Proof.Machine

end

/-! The obligations of the family. -/

section

open Sys2Proof Sys2Proof.Machine

/-- Settles O54: a step keeps every invariant but `HoldJustified` on its own; that one it meets because no
wait is left held whose outcome is settled. -/
theorem stepKeepsInvariant : Obligations.StepKeepsInvariant := by
  intro s t hs h
  rcases step_keeps h with hkeeps | ⟨trace, draw, rfl⟩
  · rcases step_holdOpen h hs.awake_of_latched with rfl | hopen
    · exact hs
    · exact hs.of_keeps hkeeps hopen
  · exact State.resetWith_inv trace draw hs.boardAdmitted

/-- Settles O49, by the guards of the FG operations and by what an operation leaves of a stopped machine. -/
theorem failedAndHaltedAreTerminal : Obligations.FailedAndHaltedAreTerminal := by
  intro i s t hi hs hstopped h
  have hkeeps := exec_ensures_keeps hi s t h
  obtain ⟨hstate, hcause, -⟩ :=
    hkeeps.staysStopped hstopped hs.latchMatchesFailed (hs.holdJustified.awake hstopped)
  have hlatch := hkeeps.latchMatchesFailed hs.latchMatchesFailed
  rw [State.LatchMatchesFailed, hstate] at hlatch
  exact ⟨hstate, hcause, Bool.eq_iff_iff.mpr (hlatch.trans hs.latchMatchesFailed.symm),
    fun hfg => exec_fg_next_of_stopped hfg hstopped h⟩

/-- Settles O55: only `State.display` and ENV.RESET write the display's registers, and both write them together. -/
theorem stepKeepsDisplayTracksVisible : Obligations.StepKeepsDisplayTracksVisible := by
  intro s t hs h
  rcases step_keeps h with hkeeps | ⟨trace, draw, rfl⟩
  · exact hkeeps.displayTracksVisible hs
  · rfl

/-- Settles O57: the refresh handler swaps the two buffers, ENV.RESET sets them apart, and nothing else but FSC.FORCEVIS
and the first fatal entry writes them. -/
theorem doubleBufferedBuffersStayApart : Obligations.DoubleBufferedBuffersStayApart := by
  intro s t hdouble hapart h hforce hfatal
  have hstays : s.StaysApart t → t.BuffersApart := by
    rintro (⟨hclear, hset⟩ | ⟨-, hkept⟩)
    · cases (hfatal hclear).symm.trans hset
    · exact hkept hapart
  rcases step_next h with rfl | ⟨w, rest, i, htrace, hdecode, h⟩ | ⟨inp, rest, -, hinp, h⟩
  · exact hapart
  · by_cases hreset : i = .envReset
    · subst hreset
      rw [exec_envReset_next h]
      rfl
    · have hi (k : FbIndex) : i ≠ .fscForcevis k := by
        rintro rfl
        exact hforce w rest k htrace hdecode
      exact hstays (exec_ensures_staysApart hreset hi (s := { s with trace := rest }) hdouble t h)
  · exact hstays (runInput_store_ensures hinp _ t h).2

/-- Settles O58: SYS.CHECK requests the reset only where none is pending, and only ENV.RESET clears it. -/
theorem stepKeepsResetRequestedOnce : Obligations.StepKeepsResetRequestedOnce := by
  intro s t hs h
  rcases step_keeps h with hkeeps | ⟨trace, draw, rfl⟩
  · exact hkeeps.resetRequestedOnce hs
  · rfl

end

/-! PROOFS of the family 20_memory: who writes the memory spaces (R60, R67), and their canonical form. -/

section

namespace Sys2Proof.Machine

/-- An element that a bulk store changes is one that it has a value for. -/
theorem Memory.exists_eq_some_of_read_fill_ne {α : Type} {n j : Nat} {f : Nat → Option α} {m : Memory α}
    (h : Memory.read (Memory.fill n f m) j ≠ Memory.read m j) : ∃ v, f j = some v := by
  rw [Memory.read_fill] at h
  cases hf : f j with
  | none => simp [hf] at h
  | some v => exact ⟨v, rfl⟩

/-- A transfer writes its region only (R67, R145). -/
theorem State.inRegion_of_transferPixel_eq_some {s : State} {j : Nat} {p : Pixel} (h : s.transferPixel j = some p) :
    s.board.inRegion j = true := by
  unfold State.transferPixel at h
  split_ifs at h <;> assumption

/-- No space holds an element right after reset, on any board (R272). -/
theorem State.resetWith_memoryCanonical (b : Board) (trace : List Input) (draw : Nat) :
    (State.resetWith b trace draw).MemoryCanonical := by
  simp [State.resetWith, Memory.wf, Memory.below]

/-- R67: operation `i`, on its way from `s` to `t`, may have changed element `j` of FB[k]: BSE.DONE in its region, and
the first fatal entry in FB[FATAL_FB]. -/
def State.MayWriteFb (i : Instr) (s t : State) (k : FbIndex) (j : Nat) : Prop :=
  (i = .bseDone ∧ k = s.bseDst ∧ s.board.inRegion j = true)
    ∨ (s.alreadyFailed = false ∧ t.alreadyFailed = true ∧ k = s.board.fatalFb)

/-- Operation `i`, on its way from `s` to `t`, has changed of the memory only what is its own to write, or the first
fatal entry's (R60, R67). -/
structure State.MemoryWrittenBy (i : Instr) (s t : State) : Prop where
  board : t.board = s.board
  latched : s.alreadyFailed = true → t.alreadyFailed = true
  fb : ∀ k j, Memory.read (t.fb k) j ≠ Memory.read (s.fb k) j → s.MayWriteFb i t k j
  srcCpu : t.srcCpu ≠ s.srcCpu → ∃ v, i = .envSrcfill v
  scratchCpu : t.scratchCpu ≠ s.scratchCpu → i = .bseScale
  xsrcMem : t.srcMem ≠ s.srcMem ∨ t.scratchMem ≠ s.scratchMem → i = .bseFlush
  palIn : t.palIn = s.palIn
  clutCpu : t.clutCpu ≠ s.clutCpu → i = .bsePalbuild
  clutMem : t.clutMem ≠ s.clutMem → i = .bsePalflush
  clutHw : t.clutHw ≠ s.clutHw → i = .bsePaldone ∨ i = .bsePalerr

namespace State.MemoryWrittenBy

variable {i : Instr} {s t : State}

theorem refl (i : Instr) (s : State) : s.MemoryWrittenBy i s where
  board := rfl
  latched := id
  fb := fun _ _ hne => absurd rfl hne
  srcCpu := absurd rfl
  scratchCpu := absurd rfl
  xsrcMem := fun hne => hne.elim (absurd rfl) (absurd rfl)
  palIn := rfl
  clutCpu := absurd rfl
  clutMem := absurd rfl
  clutHw := absurd rfl

/-! ### Writes to a framebuffer -/

/-- A framebuffer replaced, where every element that differs is one to write. -/
theorem setFb (h : s.MemoryWrittenBy i t) {k : FbIndex} {m : Memory Pixel}
    (hm : ∀ j, Memory.read m j ≠ Memory.read (s.fb k) j → s.MayWriteFb i t k j) :
    s.MemoryWrittenBy i (t.setFb k m) := by
  have hfb (l : FbIndex) (j : Nat) (hne : Memory.read ((t.setFb k m).fb l) j ≠ Memory.read (s.fb l) j) :
      s.MayWriteFb i t l j := by
    by_cases hl : l = k
    · subst hl
      rw [State.setFb_fb] at hne
      exact hm j hne
    · rw [State.setFb_fb_other t hl] at hne
      exact h.fb l j hne
  unfold State.setFb at hfb ⊢
  split_ifs at hfb ⊢ <;> exact { h with fb := hfb }

/-- R145: the pixels of a completing transfer. -/
theorem transferred (s : State) :
    s.MemoryWrittenBy .bseDone
      (s.setFb s.bseDst (Memory.fill s.board.fbSize s.transferPixel (s.fb s.bseDst))) := by
  refine (refl _ s).setFb fun j hne => ?_
  obtain ⟨p, hp⟩ := Memory.exists_eq_some_of_read_fill_ne hne
  exact .inl ⟨rfl, rfl, State.inRegion_of_transferPixel_eq_some hp⟩

/-- R204: the first fatal entry writes FB[FATAL_FB], and a later one nothing. -/
theorem fatalEntry (h : s.MemoryWrittenBy i t) (c : Byte) : s.MemoryWrittenBy i (t.fatalEntry c) := by
  cases hlatched : t.alreadyFailed with
  | true => rw [State.fatalEntry_latched c hlatched]; exact { h with }
  | false =>
    have hclear : s.alreadyFailed = false := eq_false_of_ne_true fun hset => by simp [h.latched hset] at hlatched
    have hregisters : s.MemoryWrittenBy i (t.failing c) :=
      { h with
        latched := fun _ => rfl
        fb := fun k j hne => (h.fb k j hne).imp_right fun ⟨_, _, hk⟩ => ⟨hclear, rfl, hk⟩ }
    rw [State.fatalEntry_unlatched c hlatched]
    exact hregisters.setFb fun _ _ => .inr ⟨hclear, rfl, congrArg Board.fatalFb h.board⟩

/-! ### Operations that write no framebuffer -/

/-- R154, R155: a load that ends, well or not. -/
theorem loadEnded (h : s.MemoryWrittenBy i t) (hi : i = .bsePaldone ∨ i = .bsePalerr) (hw : Vector ClutEntry 256)
    (valid done err : Bool) :
    s.MemoryWrittenBy i { t.drew with clutHw := hw, clutValid := valid, palDone := done, palErr := err } :=
  { h with clutHw := fun _ => hi }

/-- One evaluation of a wait (R9). -/
theorem evalWait (h : s.MemoryWrittenBy i t) (w : FgHold) : s.MemoryWrittenBy i (t.evalWait w) := by
  rcases t.evalWait_cases w with ⟨-, e⟩ | ⟨c, -, e⟩ | ⟨-, e⟩ <;> rw [e]
  · cases w <;> exact { h with }
  · exact h.fatalEntry c
  · exact { h with }

theorem reevaluate (h : s.MemoryWrittenBy i t) : s.MemoryWrittenBy i t.reevaluate := h.evalWait _

theorem respond (h : s.MemoryWrittenBy i t) (v : Nat) : s.MemoryWrittenBy i (t.respond v) := by
  unfold State.respond
  split <;> exact { h with }

/-- The ghost effects of a store into SRC (R212). -/
theorem storedSrc (h : s.MemoryWrittenBy i t) : s.MemoryWrittenBy i t.storedSrc := by
  unfold State.storedSrc
  split <;> exact { h with }

/-- R114 -/
theorem refreshBody (h : s.MemoryWrittenBy i t) : s.MemoryWrittenBy i t.refreshBody := by
  unfold State.refreshBody
  split <;> exact { h with }

/-- R181 -/
theorem pushByte (h : s.MemoryWrittenBy i t) (b : Byte) : s.MemoryWrittenBy i (t.pushByte b) := by
  unfold State.pushByte
  split <;> exact { h with }

/-- Phase 1 of KDB.POLL (R184). -/
theorem drain (h : s.MemoryWrittenBy i t) (n : Nat) : s.MemoryWrittenBy i (State.drain n t).2 := by
  induction n generalizing t with
  | zero => exact h
  | succ n ih =>
    have hpopped : s.MemoryWrittenBy i t.popped := { h with }
    unfold State.drain
    split
    · exact hpopped
    · exact ih hpopped

/-- Phase 2 of KDB.POLL (R184). -/
theorem expireKey (h : s.MemoryWrittenBy i t) : s.MemoryWrittenBy i t.expireKey := by
  unfold State.expireKey
  split <;> exact { h with }

/-- The renderer heartbeat of SYS.CHECK (R201). -/
theorem checkProgress (h : s.MemoryWrittenBy i t) : s.MemoryWrittenBy i t.checkProgress := by
  unfold State.checkProgress
  split_ifs <;> exact { h with }

/-- The display heartbeat of SYS.CHECK (R201). -/
theorem checkRefresh (h : s.MemoryWrittenBy i t) : s.MemoryWrittenBy i t.checkRefresh := by
  unfold State.checkRefresh
  split_ifs
  · exact { h with }
  · exact h.fatalEntry 3
  · exact { h with }

end State.MemoryWrittenBy

/-- Every operation but ENV.RESET writes only what is its own. -/
theorem exec_ensures_memoryWrittenBy {i : Instr} (hi : i ≠ .envReset) (s : State) :
    Ensures (exec i s) (s.MemoryWrittenBy i) := by
  have hrefl := State.MemoryWrittenBy.refl i s
  cases i with
  | envReset => exact absurd rfl hi
  | envClk n => exact ensures_thenReevaluate.mpr (.reevaluate { hrefl with })
  | envEtick => exact ensures_withRenderer (ensures_thenReevaluate.mpr (.reevaluate { hrefl with }))
  | envSrcfill v =>
    exact ensures_withRenderer (ensures_thenReevaluate.mpr
      (.reevaluate (.storedSrc { hrefl with srcCpu := fun _ => ⟨v, rfl⟩ })))
  | fscRefresh =>
    refine ensures_thenReevaluate.mpr (.reevaluate ?_)
    split
    · exact hrefl.refreshBody
    · exact hrefl
  | bseDone =>
    exact ensures_ite
      (ensures_thenReevaluate.mpr (.reevaluate { State.MemoryWrittenBy.transferred s with })) ensures_refused
  | bsePaldone =>
    exact ensures_ite (ensures_thenReevaluate.mpr (.reevaluate (hrefl.loadEnded (.inl rfl) ..))) ensures_refused
  | bsePalerr =>
    exact ensures_ite (ensures_thenReevaluate.mpr (.reevaluate (hrefl.loadEnded (.inr rfl) ..))) ensures_refused
  | kdbRx b => exact ensures_thenReevaluate.mpr (.reevaluate (hrefl.pushByte b))
  | fscBegin | fscRdcnt => exact ensures_withFg (ensures_next.mpr (hrefl.respond _))
  | fscSubmit | fscSetmode _ | fscIrqctl _ | fscForcevis _ | fscRdstat | sysTelem | sysInitfail =>
    exact ensures_withFg (ensures_next.mpr { hrefl with })
  | fscWait | bseWait | bsePalwait => exact ensures_withFg (ensures_next.mpr (hrefl.evalWait _))
  | bseStart | bsePalload => exact ensures_withFg (ensures_ite ensures_refused (ensures_next.mpr { hrefl with }))
  | bseScale =>
    refine ensures_withFg (ensures_next.mpr ?_)
    split <;> exact { hrefl with scratchCpu := fun _ => rfl }
  | bseFlush =>
    refine ensures_withFg (ensures_next.mpr ?_)
    unfold State.setXsrcMem
    split <;> exact { hrefl with xsrcMem := fun _ => rfl }
  | bsePalbuild => exact ensures_withFg (ensures_next.mpr { hrefl with clutCpu := fun _ => rfl })
  | bsePalflush => exact ensures_withFg (ensures_next.mpr { hrefl with clutMem := fun _ => rfl })
  | kdbPoll =>
    refine ensures_withFg (ensures_next.mpr ?_)
    have hdrain := hrefl.drain s.ringCount
    split
    · rename_i h
      rw [h] at hdrain
      exact { hdrain with }
    · rename_i h
      rw [h] at hdrain
      exact hdrain.expireKey
  | sysCheck => exact ensures_withFg (ensures_next.mpr hrefl.checkProgress.checkRefresh)
  | sysFatal c =>
    exact ensures_ite ensures_refused (ensures_ite (ensures_next.mpr (hrefl.fatalEntry c)) ensures_refused)
  | sysFloop => exact ensures_ite (ensures_next.mpr { hrefl with }) ensures_refused

end Sys2Proof.Machine

end

/-! The obligations of the family. -/

section

open Sys2Proof Sys2Proof.Machine

/-- Settles O48: each operation writes its own space; the fatal entry, which a wait or an operation may raise on top,
writes FB[FATAL_FB] the first time. -/
theorem memoryHasItsWriters : Obligations.MemoryHasItsWriters := by
  intro i s t hi h
  obtain ⟨-, -, hfb, hsrc, hscratch, hmem, hpal, hclut, hclutMem, hclutHw⟩ := exec_ensures_memoryWrittenBy hi s t h
  exact ⟨hfb, hsrc, hscratch, hmem, hpal, hclut, hclutMem, hclutHw⟩

/-- Settles O56: every write of a step keeps the form of its space, and ENV.RESET leaves every space empty. -/
theorem stepKeepsMemoryCanonical : Obligations.StepKeepsMemoryCanonical := by
  intro s t hs h
  rcases step_keeps h with hkeeps | ⟨trace, draw, rfl⟩
  · exact hkeeps.memoryCanonical hs
  · exact State.resetWith_memoryCanonical s.board trace draw

end

/-! PROOFS of the family 30_encoding: the operation word (R90, R92), the opcode map (R94, R95), a word's step (R101). -/

section

namespace Sys2Proof

/-! ## A legal word spells its operation (R94) -/

/-- The operation is well formed and its word has UNIT u, OP o and ARG a (R90). -/
structure Instr.Spells (i : Instr) (u o : Nat) (a : Byte) : Prop where
  wf : i.wf = true
  word : encode i = opWord (BitVec.ofNat 4 u) (BitVec.ofNat 4 o) a

/-- A word is put together from its own fields (R90). -/
theorem opWord_fields (w : Word16) :
    opWord (BitVec.ofNat 4 (unitField w)) (BitVec.ofNat 4 (opField w)) (argField w) = w := by
  refine word_eq_of_fields ?_ ?_ (argField_opWord ..)
  · rw [unitField_opWord]
    exact Nat.mod_eq_of_lt (BitVec.isLt _)
  · rw [opField_opWord]
    exact Nat.mod_eq_of_lt (BitVec.isLt _)

theorem eq_of_decodeNoArg {i j : Instr} {a : Byte} (h : decodeNoArg i a = .ok j) : a = 0 ∧ i = j := by
  unfold decodeNoArg at h
  split at h
  · exact ⟨‹_›, Except.ok.inj h⟩
  · cases h

theorem eq_of_decodeBitArg {f : Bool → Instr} {a : Byte} {j : Instr} (h : decodeBitArg f a = .ok j) :
    ∃ b, a = bitArg b ∧ f b = j := by
  unfold decodeBitArg at h
  split at h
  · exact ⟨false, ‹_›, Except.ok.inj h⟩
  · split at h
    · exact ⟨true, ‹_›, Except.ok.inj h⟩
    · cases h

theorem Instr.Spells.of_decodeNoArg {i j : Instr} {u o : Nat} {a : Byte} (h : decodeNoArg i a = .ok j)
    (hi : i.Spells u o 0) : j.Spells u o a := by
  obtain ⟨rfl, rfl⟩ := eq_of_decodeNoArg h
  exact hi

theorem Instr.Spells.of_decodeBitArg {f : Bool → Instr} {j : Instr} {u o : Nat} {a : Byte}
    (h : decodeBitArg f a = .ok j) (hf : ∀ b, (f b).Spells u o (bitArg b)) : j.Spells u o a := by
  obtain ⟨b, rfl, rfl⟩ := eq_of_decodeBitArg h
  exact hf b

theorem decodeEnv_spells {o : Nat} {a : Byte} {i : Instr} (h : decodeEnv o a = .ok i) : i.Spells 0 o a := by
  unfold decodeEnv at h
  split at h
  · cases h
    exact ⟨rfl, rfl⟩
  · exact .of_decodeNoArg h ⟨rfl, rfl⟩
  · cases h
    exact ⟨rfl, rfl⟩
  · exact .of_decodeNoArg h ⟨rfl, rfl⟩
  · cases h

theorem decodeFsc_spells {o : Nat} {a : Byte} {i : Instr} (h : decodeFsc o a = .ok i) : i.Spells 1 o a := by
  unfold decodeFsc at h
  split at h
  case h_5 | h_6 => exact .of_decodeBitArg h fun _ => ⟨rfl, rfl⟩
  case h_7 => exact .of_decodeBitArg h fun b => by cases b <;> exact ⟨rfl, rfl⟩
  case h_10 => cases h
  all_goals exact .of_decodeNoArg h ⟨rfl, rfl⟩

theorem decodeBse_spells {o : Nat} {a : Byte} {i : Instr} (h : decodeBse o a = .ok i) : i.Spells 2 o a := by
  unfold decodeBse at h
  split at h
  case h_12 => cases h
  all_goals exact .of_decodeNoArg h ⟨rfl, rfl⟩

theorem decodeKdb_spells {o : Nat} {a : Byte} {i : Instr} (h : decodeKdb o a = .ok i) : i.Spells 3 o a := by
  unfold decodeKdb at h
  split at h
  · cases h
    exact ⟨rfl, rfl⟩
  · exact .of_decodeNoArg h ⟨rfl, rfl⟩
  · cases h

/-- The cause of SYS.FATAL is not 0, since 0 is the illegal one (R95). -/
theorem decodeSys_spells {o : Nat} {a : Byte} {i : Instr} (h : decodeSys o a = .ok i) : i.Spells 4 o a := by
  unfold decodeSys at h
  split at h
  case h_2 =>
    split at h
    · cases h
    · cases h
      exact ⟨by simpa [Instr.wf] using ‹¬a = 0›, rfl⟩
  case h_6 => cases h
  all_goals exact .of_decodeNoArg h ⟨rfl, rfl⟩

theorem decode_spells {w : Word16} {i : Instr} (h : decode w = .ok i) :
    i.Spells (unitField w) (opField w) (argField w) := by
  unfold decode at h
  split at h <;> rename_i hunit
  · exact hunit ▸ decodeEnv_spells h
  · exact hunit ▸ decodeFsc_spells h
  · exact hunit ▸ decodeBse_spells h
  · exact hunit ▸ decodeKdb_spells h
  · exact hunit ▸ decodeSys_spells h
  · cases h

/-- R94: the word of a well-formed operation decodes to it, one law a constructor. -/
theorem decode_encode {i : Instr} (h : i.wf = true) : decode (encode i) = .ok i := by
  cases i with
  | envClk n => exact Laws.RoundTrip.envClk n h
  | envEtick => exact Laws.RoundTrip.envEtick h
  | envSrcfill v => exact Laws.RoundTrip.envSrcfill v h
  | envReset => exact Laws.RoundTrip.envReset h
  | fscBegin => exact Laws.RoundTrip.fscBegin h
  | fscSubmit => exact Laws.RoundTrip.fscSubmit h
  | fscWait => exact Laws.RoundTrip.fscWait h
  | fscRefresh => exact Laws.RoundTrip.fscRefresh h
  | fscSetmode m => exact Laws.RoundTrip.fscSetmode m h
  | fscIrqctl e => exact Laws.RoundTrip.fscIrqctl e h
  | fscForcevis k => exact Laws.RoundTrip.fscForcevis k h
  | fscRdcnt => exact Laws.RoundTrip.fscRdcnt h
  | fscRdstat => exact Laws.RoundTrip.fscRdstat h
  | bseScale => exact Laws.RoundTrip.bseScale h
  | bseFlush => exact Laws.RoundTrip.bseFlush h
  | bseStart => exact Laws.RoundTrip.bseStart h
  | bseWait => exact Laws.RoundTrip.bseWait h
  | bseDone => exact Laws.RoundTrip.bseDone h
  | bsePalbuild => exact Laws.RoundTrip.bsePalbuild h
  | bsePalflush => exact Laws.RoundTrip.bsePalflush h
  | bsePalload => exact Laws.RoundTrip.bsePalload h
  | bsePalwait => exact Laws.RoundTrip.bsePalwait h
  | bsePaldone => exact Laws.RoundTrip.bsePaldone h
  | bsePalerr => exact Laws.RoundTrip.bsePalerr h
  | kdbRx b => exact Laws.RoundTrip.kdbRx b h
  | kdbPoll => exact Laws.RoundTrip.kdbPoll h
  | sysCheck => exact Laws.RoundTrip.sysCheck h
  | sysFatal c => exact Laws.RoundTrip.sysFatal c h
  | sysFloop => exact Laws.RoundTrip.sysFloop h
  | sysTelem => exact Laws.RoundTrip.sysTelem h
  | sysInitfail => exact Laws.RoundTrip.sysInitfail h

/-- R94, R97: decoding and encoding are inverse to each other on legal words and well-formed operations. -/
theorem decode_eq_ok_iff {w : Word16} {i : Instr} : decode w = .ok i ↔ i.wf = true ∧ encode i = w := by
  constructor
  · intro h
    obtain ⟨hwf, hword⟩ := decode_spells h
    exact ⟨hwf, hword.trans (opWord_fields w)⟩
  · rintro ⟨hwf, rfl⟩
    exact decode_encode hwf

/-! ## The map of match and mask (R94) -/

/-- The bits of ARG that the operation's argument does not use, which "must be 0" (R90, R92). -/
def Instr.argMask : Instr → Byte
  | .envClk _ | .envSrcfill _ | .kdbRx _ | .sysFatal _ => 0
  | .fscSetmode _ | .fscIrqctl _ | .fscForcevis _ => 0xFE
  | _ => 0xFF

/-- The bits of a word that name the operation: UNIT, OP and the unused bits of ARG. -/
def Instr.mask (i : Instr) : Word16 := opWord 15 15 i.argMask

/-- The row of the map that an operation stands under. -/
def Instr.row (i : Instr) : OpcodeRow := ⟨i.mnemonic, encode i &&& i.mask, i.mask⟩

/-- The operations in the order of the map, each with an argument of zeros. -/
def opcodeOps : List Instr := [
  .envClk 0, .envEtick, .envSrcfill 0, .envReset,
  .fscBegin, .fscSubmit, .fscWait, .fscRefresh, .fscSetmode false, .fscIrqctl false, .fscForcevis 0, .fscRdcnt,
  .fscRdstat,
  .bseScale, .bseFlush, .bseStart, .bseWait, .bseDone, .bsePalbuild, .bsePalflush, .bsePalload, .bsePalwait,
  .bsePaldone, .bsePalerr,
  .kdbRx 0, .kdbPoll,
  .sysCheck, .sysFatal 0, .sysFloop, .sysTelem, .sysInitfail]

theorem opcodeMap_eq_rows : opcodeMap = opcodeOps.map Instr.row := by decide +kernel

/-- A mask with all bits of UNIT and OP keeps these fields. -/
theorem unitField_and_mask (w : Word16) (m : Byte) : unitField (w &&& opWord 15 15 m) = unitField w := by
  have hones : (opWord 15 15 m).extractLsb' 12 4 = BitVec.allOnes 4 := BitVec.eq_of_toNat_eq (unitField_opWord ..)
  rw [unitField, BitVec.extractLsb'_and, hones, BitVec.and_allOnes]
  rfl

theorem opField_and_mask (w : Word16) (m : Byte) : opField (w &&& opWord 15 15 m) = opField w := by
  have hones : (opWord 15 15 m).extractLsb' 8 4 = BitVec.allOnes 4 := BitVec.eq_of_toNat_eq (opField_opWord ..)
  rw [opField, BitVec.extractLsb'_and, hones, BitVec.and_allOnes]
  rfl

theorem argField_and_mask (w : Word16) (m : Byte) : argField (w &&& opWord 15 15 m) = argField w &&& m := by
  rw [argField, BitVec.extractLsb'_and]
  exact congrArg _ (argField_opWord ..)

theorem opWord_and_mask (u o : BitVec 4) (a m : Byte) : opWord u o a &&& opWord 15 15 m = opWord u o (a &&& m) := by
  refine word_eq_of_fields ?_ ?_ ?_
  · rw [unitField_and_mask, unitField_opWord, unitField_opWord]
  · rw [opField_and_mask, opField_opWord, opField_opWord]
  · rw [argField_and_mask, argField_opWord, argField_opWord]

theorem opWord_and_byteMask (u o : BitVec 4) (a : Byte) : opWord u o a &&& opWord 15 15 0 = opWord u o 0 := by
  rw [opWord_and_mask]
  exact congrArg _ BitVec.and_zero

theorem eq_of_fullMasked {w v : Word16} (h : w &&& opWord 15 15 0xFF = v &&& opWord 15 15 0xFF) : w = v := by
  have hones : opWord 15 15 0xFF = BitVec.allOnes 16 := rfl
  simpa only [hones, BitVec.and_allOnes] using h

/-- A word that agrees with an operation's under a mask is that word with an ARG that agrees with the operation's. -/
theorem exists_arg_of_masked {w : Word16} {u o : BitVec 4} {a m : Byte}
    (h : w &&& opWord 15 15 m = opWord u o a &&& opWord 15 15 m) : ∃ c, c &&& m = a &&& m ∧ w = opWord u o c := by
  have hunit := congrArg unitField h
  have hop := congrArg opField h
  have harg := congrArg argField h
  rw [unitField_and_mask, unitField_and_mask] at hunit
  rw [opField_and_mask, opField_and_mask] at hop
  rw [argField_and_mask, argField_and_mask, argField_opWord] at harg
  refine ⟨argField w, harg, word_eq_of_fields ?_ ?_ (argField_opWord ..).symm⟩
  · rw [hunit, unitField_opWord, unitField_opWord]
  · rw [hop, opField_opWord, opField_opWord]

theorem exists_bitArg_of_masked {a : Byte} {b : Bool} (h : a &&& 0xFE = bitArg b &&& 0xFE) : ∃ c, a = bitArg c := by
  have hbit : ∀ a : Byte, a &&& 0xFE = 0 → a = bitArg (a.getLsbD 0) := by decide
  exact ⟨_, hbit a (h.trans (by cases b <;> rfl))⟩

/-- A word that agrees under the mask 0xFFFE with one of a one-bit argument has a one-bit argument too. -/
theorem exists_bitArg_word_of_masked {w : Word16} {u o : BitVec 4} {b : Bool}
    (h : w &&& opWord 15 15 0xFE = opWord u o (bitArg b) &&& opWord 15 15 0xFE) :
    ∃ c, w = opWord u o (bitArg c) := by
  obtain ⟨a, ha, rfl⟩ := exists_arg_of_masked h
  obtain ⟨c, rfl⟩ := exists_bitArg_of_masked ha
  exact ⟨c, rfl⟩

/-- The map has the row of every operation, whatever its argument. -/
theorem Instr.row_mem_opcodeMap (i : Instr) : i.row ∈ opcodeMap := by
  cases i
  case envClk | envSrcfill | kdbRx | sysFatal =>
    simp only [Instr.row, Instr.mnemonic, Instr.mask, Instr.argMask, encode, opWord_and_byteMask]
    decide +kernel
  case fscSetmode b | fscIrqctl b => cases b <;> decide +kernel
  case fscForcevis k => fin_cases k <;> decide +kernel
  all_goals decide +kernel

/-- A word with the masked bits of an operation is the word of one that differs from it in the argument alone. -/
theorem exists_encode_of_masked {i : Instr} {w : Word16} (h : w &&& i.mask = encode i &&& i.mask) :
    ∃ j, encode j = w ∧ j.mnemonic = i.mnemonic := by
  cases i
  case envClk =>
    obtain ⟨n, -, rfl⟩ := exists_arg_of_masked h
    exact ⟨.envClk n, rfl, rfl⟩
  case envSrcfill =>
    obtain ⟨v, -, rfl⟩ := exists_arg_of_masked h
    exact ⟨.envSrcfill v, rfl, rfl⟩
  case kdbRx =>
    obtain ⟨b, -, rfl⟩ := exists_arg_of_masked h
    exact ⟨.kdbRx b, rfl, rfl⟩
  case sysFatal =>
    obtain ⟨c, -, rfl⟩ := exists_arg_of_masked h
    exact ⟨.sysFatal c, rfl, rfl⟩
  case fscSetmode =>
    obtain ⟨m, rfl⟩ := exists_bitArg_word_of_masked h
    exact ⟨.fscSetmode m, rfl, rfl⟩
  case fscIrqctl =>
    obtain ⟨e, rfl⟩ := exists_bitArg_word_of_masked h
    exact ⟨.fscIrqctl e, rfl, rfl⟩
  case fscForcevis =>
    obtain ⟨b, rfl⟩ := exists_bitArg_word_of_masked h
    exact ⟨.fscForcevis (fbIndexOfBit b), by cases b <;> rfl, rfl⟩
  all_goals exact ⟨_, (eq_of_fullMasked h).symm, rfl⟩

/-- R94: a row matches exactly the words of its operation, the illegal one of SYS.FATAL among them. -/
theorem exists_row_iff {w : Word16} {name : String} :
    (∃ r ∈ opcodeMap, r.mnemonic = name ∧ w &&& r.mask = r.pattern) ↔ ∃ i, encode i = w ∧ i.mnemonic = name := by
  constructor
  · rintro ⟨r, hr, rfl, hmatch⟩
    rw [opcodeMap_eq_rows, List.mem_map] at hr
    obtain ⟨i, -, rfl⟩ := hr
    exact exists_encode_of_masked hmatch
  · rintro ⟨i, rfl, rfl⟩
    exact ⟨i.row, i.row_mem_opcodeMap, rfl, rfl⟩

/-- R95: the one operation without a legal word is SYS.FATAL with c = 0. -/
theorem Instr.wf_iff_encode_ne (i : Instr) : i.wf = true ↔ encode i ≠ 0x4100 := by
  constructor
  · intro hwf heq
    have hillegal : decode 0x4100 = .error .causeZero := by decide
    have hlegal := decode_encode hwf
    rw [heq, hillegal] at hlegal
    cases hlegal
  · intro hne
    cases i with
    | sysFatal c =>
      have hc : c ≠ 0 := fun hc => hne (hc ▸ rfl)
      simpa [Instr.wf] using hc
    | _ => rfl

end Sys2Proof

namespace Sys2Proof.Machine

/-! ## The step that meets a word (R101) -/

/-- On an admitted board a step runs the next input of the trace. -/
theorem step_eq_runInput {s : State} {inp : Input} {rest : List Input} (hboard : s.board.wf = true)
    (htrace : s.trace = inp :: rest) : step s = runInput inp { s with trace := rest } := by
  simp [step, htrace, hboard]

theorem runInput_word_of_decode {w : Word16} {i : Instr} (h : decode w = .ok i) (s : State) :
    runInput (.word w) s = exec i s := by
  simp [runInput, h]

theorem runInput_word_of_illegal {w : Word16} {e : Illegal} (h : decode w = .error e) (s : State) :
    runInput (.word w) s = .refused (.illegalWord e) := by
  simp [runInput, h]

theorem decode_of_decodeTableWord {w : Nat} {i : Instr} (h : decodeTableWord 16 w = some i) :
    decode (BitVec.ofNat 16 (w % 2 ^ 16)) = .ok i := by
  unfold decodeTableWord at h
  split at h
  · cases hdecode : decode (BitVec.ofNat 16 (w % 2 ^ 16)) with
    | ok j =>
      rw [hdecode] at h
      exact congrArg _ (Option.some.inj h)
    | error e =>
      rw [hdecode] at h
      cases h
  · cases h

end Sys2Proof.Machine

end

/-! The obligations of the family. -/

section

open Sys2Proof Sys2Proof.Machine

/-- Settles O2, by the round trip of each constructor. -/
theorem decodeOfEncodeIsIdentity : Obligations.DecodeOfEncodeIsIdentity := fun _ => decode_encode

/-- Settles O3: each unit's decoder answers an operation whose word has the fields it was given. -/
theorem legalWordIsEncodingOfItsOperation : Obligations.LegalWordIsEncodingOfItsOperation :=
  fun _ _ => decode_eq_ok_iff.mp

/-- Settles O4: the rows match the words of the operations, and of these only 0x4100 is illegal. -/
theorem wordSpellsRowExactlyByMask : Obligations.WordSpellsRowExactlyByMask := by
  intro w name
  rw [exists_row_iff]
  constructor
  · rintro ⟨i, hdecode, hname⟩
    obtain ⟨hwf, rfl⟩ := decode_eq_ok_iff.mp hdecode
    exact ⟨i.wf_iff_encode_ne.mp hwf, i, rfl, hname⟩
  · rintro ⟨hne, i, rfl, hname⟩
    exact ⟨i, decode_encode (i.wf_iff_encode_ne.mpr hne), hname⟩

/-- Settles O5: a legal word would be spelt by a row and differ from 0x4100, as O4 says. -/
theorem illegalWordIsRefused : Obligations.IllegalWordIsRefused := by
  intro s w rest hboard htrace hillegal
  cases hdecode : decode w with
  | ok i =>
    obtain ⟨hne, r, hr, -, hmatch⟩ := (wordSpellsRowExactlyByMask w i.mnemonic).mp ⟨i, hdecode, rfl⟩
    rcases hillegal with hnone | heq
    · exact absurd hmatch (hnone r hr)
    · exact absurd heq hne
  | error e => exact ⟨e, rfl, by rw [step_eq_runInput hboard htrace, runInput_word_of_illegal hdecode]⟩

/-- Settles O1, by running the decoder on each word. -/
theorem sampleWordsDecode : Obligations.SampleWordsDecode := by
  unfold Obligations.SampleWordsDecode
  decide

/-- Settles O6: the step takes the word off the trace; off a word just scheduled, the state is the one before. -/
theorem stepRunsDecodedOperation : Obligations.StepRunsDecodedOperation := by
  have hstep : ∀ (s : State) (w : Word16) (rest : List Input) (i : Instr), s.board.wf = true →
      s.trace = .word w :: rest → decode w = .ok i → step s = exec i { s with trace := rest } := by
    intro s w rest i hboard htrace hdecode
    rw [step_eq_runInput hboard htrace, runInput_word_of_decode hdecode]
  exact ⟨hstep, fun s w i hboard hdecode =>
    hstep (s.withFetchWord 16 w) _ s.trace i hboard rfl (decode_of_decodeTableWord hdecode)⟩

end

/-! PROOFS of the family 40_fsc_swap_coordinator: the commands of the swap coordinator (R111 to R119), the refresh
handler (R114), runs of submitted and consumed frames (R121, R122), a wait without the interrupt (R113). -/

section

namespace Sys2Proof.Machine

/-! ## The commands (R111 to R119) -/

/-- R93: a response writes RSP, and a draw where it is free. -/
theorem State.respond_frame (s : State) (v : Nat) : { s.respond v with rsp := s.rsp, draws := s.draws } = s := by
  unfold State.respond
  split <;> rfl

/-- R93: an FG operation that only answers the number `v`. -/
theorem exists_next_of_respond {s : State} (h : s.FgEnabled) (v : Nat) :
    ∃ t, withFg s (.next (s.respond v)) = .next t ∧ { t with rsp := s.rsp, draws := s.draws } = s
      ∧ (v < 2 ^ 32 → t = { s with rsp := BitVec.ofNat 32 v }) :=
  ⟨s.respond v, withFg_enabled h _, s.respond_frame v, s.respond_fits⟩

/-- R112, where FG may issue FSC.SUBMIT. -/
theorem exec_fscSubmit_enabled {s : State} (h : s.FgEnabled) :
    exec .fscSubmit s = .next { s with frameReady := true, rsp := 0 } := withFg_enabled h _

/-- R113, where FG may issue FSC.WAIT. -/
theorem exec_fscWait_enabled {s : State} (h : s.FgEnabled) : exec .fscWait s = .next (s.evalWait .fscWait) :=
  withFg_enabled h _

/-- R113 with no frame pending: FG, which is awake, stays so. -/
theorem State.evalWait_fscWait_idle {s : State} (hawake : s.fgHold = .none) (hframe : s.frameReady = false) :
    s.evalWait .fscWait = { s with rsp := 0 } := by
  simp [State.evalWait, State.waitOutcome_fscWait, State.waitCompleted, hframe, hawake]

/-- R113 with a frame pending. -/
theorem State.evalWait_fscWait_pending {s : State} (hframe : s.frameReady = true) :
    s.evalWait .fscWait = { s with fgHold := .fscWait } := by
  simp [State.evalWait, State.waitOutcome_fscWait, hframe]

/-- The bits of a word put together from a higher part and one bit. -/
theorem getLsbD_append_ofBool {w : Nat} (v : BitVec w) (b : Bool) (j : Nat) :
    (v ++ BitVec.ofBool b).getLsbD j = if j = 0 then b else v.getLsbD (j - 1) := BitVec.getLsbD_concat v b j

/-- R30: the bits of FSC_STATUS in their places. -/
theorem State.fscStatus_bits (s : State) :
    s.fscStatus.getLsbD 0 = s.frameReady ∧ s.fscStatus.getLsbD 1 = decide (s.drawIndex = 1)
      ∧ s.fscStatus.getLsbD 2 = s.doubleBufferEnabled ∧ s.fscStatus.getLsbD 3 = decide (s.visibleIndex = 1)
      ∧ s.fscStatus.getLsbD 4 = s.refreshIrqEnabled ∧ s.fscStatus.getLsbD 5 = s.refreshArmed := by
  simp only [State.fscStatus, getLsbD_append_ofBool, beq_eq_decide, OfNat.ofNat_ne_zero, one_ne_zero, Nat.reduceSub,
    Nat.sub_self, if_true, if_false, and_self]

/-- R30: FSC_STATUS has zeros above its six bits. -/
theorem State.fscStatus_high (s : State) {j : Nat} (hj : 6 ≤ j) : s.fscStatus.getLsbD j = false := by
  obtain ⟨k, rfl⟩ := Nat.exists_eq_add_of_le' hj
  simp [State.fscStatus, getLsbD_append_ofBool]

/-- R119: FSC_STATUS after reset, where the draw buffer is FB[1]. -/
theorem State.resetWith_fscStatus {b : Board} (hdraw : b.resetDrawIndex = 1) (trace : List Input) (draw : Nat) :
    (State.resetWith b trace draw).fscStatus = 0x00000002 := by
  simp only [State.fscStatus, State.resetWith, hdraw]
  decide

/-! ## The refresh handler (R114) -/

/-- R114, D7: disabled or unarmed, the scan event is lost. -/
theorem exec_fscRefresh_lost {s : State} (h : ¬ s.RefreshEnabled) : exec .fscRefresh s = .next s.reevaluate := by
  simp only [exec, execFscRefresh, thenReevaluate, if_neg h]

/-- R114, where the handler's body runs. -/
theorem exec_fscRefresh_enabled {s : State} (h : s.RefreshEnabled) :
    exec .fscRefresh s = .next s.refreshBody.reevaluate := by
  simp only [exec, execFscRefresh, thenReevaluate, if_pos h]

/-- R114 without a frame: the handler, armed already, counts. -/
theorem State.refreshBody_idle {s : State} (h : s.RefreshEnabled) (hframe : s.frameReady = false) :
    s.refreshBody = { s with refreshCounter := bumpCounter s.board s.refreshCounter } := by
  simp [State.refreshBody, hframe, h.2]

/-- R114 on a pending frame, in its steps (a) to (d). -/
theorem State.refreshBody_pending {s : State} (h : s.RefreshEnabled) (hframe : s.frameReady = true) :
    s.refreshBody =
      { s with
        lcdAddr := s.board.fbAddr s.drawIndex
        lcdOut := s.lcdOut ++ [.reload (s.board.fbAddr s.drawIndex)]
        visibleIndex := s.drawIndex
        drawIndex := if s.doubleBufferEnabled = true then 1 - s.drawIndex else s.drawIndex
        frameReady := false
        refreshCounter := bumpCounter s.board s.refreshCounter } := by
  simp [State.refreshBody, State.consumeFrame, State.display, hframe, h.2]

/-! ## Frames submitted and consumed (R121, R122) -/

/-- A frame submitted and then consumed by the refresh handler. -/
def State.frameShown (s : State) : State := State.refreshBody { s with frameReady := true, rsp := 0 }

/-- What a consumed frame leaves: a machine that can take the next. -/
@[simp] theorem State.frameShown_fields (s : State) :
    s.frameShown.board = s.board ∧ s.frameShown.doubleBufferEnabled = s.doubleBufferEnabled
      ∧ s.frameShown.sysState = s.sysState ∧ s.frameShown.fgHold = s.fgHold
      ∧ s.frameShown.refreshIrqEnabled = s.refreshIrqEnabled := by
  repeat' constructor

@[simp] theorem State.frameShown_drawIndex (s : State) :
    s.frameShown.drawIndex = if s.doubleBufferEnabled = true then 1 - s.drawIndex else s.drawIndex := rfl

@[simp] theorem State.frameShown_visibleIndex (s : State) : s.frameShown.visibleIndex = s.drawIndex := rfl

@[simp] theorem State.frameShown_lcdAddr (s : State) : s.frameShown.lcdAddr = s.board.fbAddr s.drawIndex := rfl

@[simp] theorem State.frameShown_lcdOut (s : State) :
    s.frameShown.lcdOut = s.lcdOut ++ [.reload (s.board.fbAddr s.drawIndex)] := rfl

@[simp] theorem State.frameShown_refreshCounter (s : State) :
    s.frameShown.refreshCounter = bumpCounter s.board s.refreshCounter := rfl

/-- R121: FSC.SUBMIT and its consumption, with FG awake and the refresh interrupt on. -/
theorem execAll_frameShown {s : State} (hfg : s.FgEnabled) (hrefresh : s.RefreshEnabled) (is : List Instr) :
    execAll (.fscSubmit :: .fscRefresh :: is) s = execAll is s.frameShown := by
  have hsubmitted : State.RefreshEnabled { s with frameReady := true, rsp := 0 } := hrefresh
  have hawake : s.frameShown.fgHold = .none := by simp [hfg.2]
  rw [execAll, exec_fscSubmit_enabled hfg]
  dsimp only
  rw [execAll, exec_fscRefresh_enabled hsubmitted]
  dsimp only
  rw [← State.frameShown, State.reevaluate_none hawake]

/-- `n` frames run through (R121). -/
theorem execAll_framesShown (n : Nat) {s : State} (hfg : s.FgEnabled) (hrefresh : s.RefreshEnabled) :
    execAll (List.replicate n [Instr.fscSubmit, Instr.fscRefresh]).flatten s = .next (State.frameShown^[n] s) := by
  induction n generalizing s with
  | zero => rfl
  | succ n ih =>
    have hfg' : s.frameShown.FgEnabled := by simpa [State.FgEnabled] using hfg
    have hrefresh' : s.frameShown.RefreshEnabled := ⟨by simpa using hrefresh.1, rfl⟩
    rw [List.replicate_succ, List.flatten_cons]
    exact (execAll_frameShown hfg hrefresh _).trans (ih hfg' hrefresh')

/-- What `n` consumed frames leave, and how much they report to the display. -/
theorem State.framesShown_fields (n : Nat) (s : State) :
    (State.frameShown^[n] s).board = s.board
      ∧ (State.frameShown^[n] s).doubleBufferEnabled = s.doubleBufferEnabled
      ∧ (State.frameShown^[n] s).lcdOut.length = s.lcdOut.length + n := by
  induction n with
  | zero => exact ⟨rfl, rfl, rfl⟩
  | succ n ih =>
    obtain ⟨hboard, hdouble, hreports⟩ := ih
    rw [Function.iterate_succ_apply']
    refine ⟨by simp [hboard], by simp [hdouble], ?_⟩
    rw [State.frameShown_lcdOut, List.length_append, hreports]
    rfl

/-- R121 (b), (c): under double buffering each frame swaps the buffers. -/
theorem State.framesShown_double (n : Nat) {s : State} (hdouble : s.doubleBufferEnabled = true) :
    (State.frameShown^[n] s).drawIndex.val = (s.drawIndex.val + n) % 2 := by
  induction n with
  | zero => exact (Nat.mod_eq_of_lt s.drawIndex.isLt).symm
  | succ n ih =>
    obtain ⟨-, hdouble', -⟩ := s.framesShown_fields n
    rw [Function.iterate_succ_apply', State.frameShown_drawIndex, hdouble', if_pos hdouble]
    omega

/-- R122: in single-buffer mode no frame moves the draw buffer. -/
theorem State.framesShown_single (n : Nat) {s : State} (hsingle : s.doubleBufferEnabled = false) :
    (State.frameShown^[n] s).drawIndex = s.drawIndex := by
  induction n with
  | zero => rfl
  | succ n ih =>
    obtain ⟨-, hdouble, -⟩ := s.framesShown_fields n
    rw [Function.iterate_succ_apply', State.frameShown_drawIndex, hdouble, hsingle, ih]
    rfl

/-- R25: each frame counts one refresh, modulo 2^CNT_W. -/
theorem State.framesShown_refreshCounter (n : Nat) {s : State} (hcounter : s.refreshCounter < 2 ^ s.board.cntW) :
    (State.frameShown^[n] s).refreshCounter = (s.refreshCounter + n) % 2 ^ s.board.cntW := by
  induction n with
  | zero => exact (Nat.mod_eq_of_lt hcounter).symm
  | succ n ih =>
    obtain ⟨hboard, -, -⟩ := s.framesShown_fields n
    rw [Function.iterate_succ_apply', State.frameShown_refreshCounter, hboard, ih, bumpCounter, Nat.mod_add_mod]
    rfl

/-- No frame is left pending. -/
theorem State.framesShown_frameReady (n : Nat) {s : State} (hframe : s.frameReady = false) :
    (State.frameShown^[n] s).frameReady = false := by
  cases n with
  | zero => exact hframe
  | succ n => rw [Function.iterate_succ_apply']; rfl

/-! ## A wait without the interrupt (R113 (c)) -/

/-- A wait held on a frame that no refresh handler will consume. -/
structure State.HangsInWait (s : State) : Prop where
  held : s.fgHold = .fscWait
  pending : s.frameReady = true
  off : ¬ s.RefreshEnabled

/-- A step that writes none of these leaves the hang. -/
theorem State.HangsInWait.of_eq {s t : State} (h : s.HangsInWait) (hhold : t.fgHold = s.fgHold := by simp)
    (hframe : t.frameReady = s.frameReady := by simp) (hirq : t.refreshIrqEnabled = s.refreshIrqEnabled := by simp)
    (harmed : t.refreshArmed = s.refreshArmed := by simp) : t.HangsInWait where
  held := hhold.trans h.held
  pending := hframe.trans h.pending
  off := by rw [State.RefreshEnabled, hirq, harmed]; exact h.off

/-- With its frame still pending, the evaluation of the wait changes nothing (R9). -/
theorem State.HangsInWait.reevaluate {s : State} (h : s.HangsInWait) : s.reevaluate.HangsInWait := by
  rwa [State.reevaluate_fscWait h.held, if_neg (by simp [h.pending])]

/-- FG issues nothing while it is held (R14, R101). -/
theorem exec_fg_next_awake {i : Instr} {s t : State} (hi : i.agent = .fg) (h : exec i s = .next t) :
    s.fgHold = .none := by
  by_contra hheld
  by_cases hfloop : i = .sysFloop
  · subst hfloop
    cases h.symm.trans (exec_sysFloop_refused fun hon => hheld hon.2)
  by_cases hfatal : ∃ c, i = .sysFatal c
  · obtain ⟨c, rfl⟩ := hfatal
    exact hheld (exec_sysFatal_next h).2
  · cases h.symm.trans (exec_refused_of_not_fgEnabled hi hfloop (not_exists.mp hfatal) fun hon => hheld hon.2)

/-- R113 (c): no operation but ENV.RESET ends the hang. FG and the renderer are held, the refresh is lost, and no other
agent writes the registers that it rests on. -/
theorem exec_ensures_hangsInWait {i : Instr} (hreset : i ≠ .envReset) {s : State} (h : s.HangsInWait) :
    Ensures (exec i s) State.HangsInWait := by
  have hheld : s.fgHold ≠ .none := by simp [h.held]
  cases i with
  | envReset => exact absurd rfl hreset
  | envClk _ | kdbRx _ => exact ensures_thenReevaluate.mpr (.reevaluate h.of_eq)
  | envEtick | envSrcfill _ => exact ensures_withRenderer_of fun hon => absurd hon.2 hheld
  | fscRefresh =>
    rw [exec_fscRefresh_lost h.off]
    exact ensures_next.mpr h.reevaluate
  | bseDone | bsePaldone | bsePalerr =>
    exact ensures_ite (ensures_thenReevaluate.mpr (.reevaluate h.of_eq)) ensures_refused
  | fscBegin | fscSubmit | fscWait | fscSetmode _ | fscIrqctl _ | fscForcevis _ | fscRdcnt | fscRdstat | bseScale
  | bseFlush | bseStart | bseWait | bsePalbuild | bsePalflush | bsePalload | bsePalwait | kdbPoll | sysCheck
  | sysFatal _ | sysFloop | sysTelem | sysInitfail => exact fun _ hnext => absurd (exec_fg_next_awake rfl hnext) hheld

end Sys2Proof.Machine

end

/-! The obligations of the family. -/

section

open Sys2Proof Sys2Proof.Machine

/-- Settles O12: the wait hangs, and whatever operation answers a next state leaves it so. -/
theorem waitWithoutInterruptNeverEnds : Obligations.WaitWithoutInterruptNeverEnds := by
  intro i s t hreset hhold hframe hoff hnext
  obtain ⟨held, pending, off⟩ := exec_ensures_hangsInWait hreset ⟨hhold, hframe, hoff⟩ t hnext
  exact ⟨held, pending, off⟩

/-- Settles O17: the frames run through one after another; the last of them shows the buffer that it then leaves. -/
theorem consumedFramesAlternateBuffers : Obligations.ConsumedFramesAlternateBuffers := by
  intro n s hfg hrefresh hdouble hframe hcounter
  obtain ⟨-, -, hreports⟩ := s.framesShown_fields n
  refine ⟨_, execAll_framesShown n hfg hrefresh, State.framesShown_double n hdouble,
    State.framesShown_refreshCounter n hcounter, State.framesShown_frameReady n hframe, fun hpos => ?_, hreports⟩
  obtain ⟨m, rfl⟩ := Nat.exists_eq_add_one.mpr hpos
  obtain ⟨hboard, hdouble', -⟩ := s.framesShown_fields m
  rw [Function.iterate_succ_apply', State.frameShown_visibleIndex, State.frameShown_lcdAddr, State.frameShown_drawIndex,
    hboard, hdouble', if_pos hdouble]
  exact ⟨(sub_sub_cancel 1 _).symm, rfl⟩

/-- Settles O18: no frame moves the draw buffer, so the last one shows it. -/
theorem singleBufferModeNeverFlips : Obligations.SingleBufferModeNeverFlips := by
  intro n s hfg hrefresh hsingle _
  obtain ⟨-, -, hreports⟩ := s.framesShown_fields n
  refine ⟨_, execAll_framesShown n hfg hrefresh, State.framesShown_single n hsingle, fun hpos => ?_, hreports⟩
  obtain ⟨m, rfl⟩ := Nat.exists_eq_add_one.mpr hpos
  obtain ⟨hboard, -, -⟩ := s.framesShown_fields m
  rw [Function.iterate_succ_apply', State.frameShown_visibleIndex, State.frameShown_lcdAddr, hboard,
    State.framesShown_single m hsingle]
  exact ⟨rfl, rfl⟩

/-- Settles O9, by the response to FG. -/
theorem beginAnswersDrawBufferAddress : Obligations.BeginAnswersDrawBufferAddress :=
  ⟨by decide, fun _ h => exists_next_of_respond h _⟩

/-- Settles O10. -/
theorem submitSetsFrameReady : Obligations.SubmitSetsFrameReady := ⟨by decide, fun _ => exec_fscSubmit_enabled⟩

/-- Settles O11, by the two outcomes of the wait. -/
theorem waitIsHeldWhileFramePending : Obligations.WaitIsHeldWhileFramePending := by
  refine ⟨by decide, fun s h => ?_⟩
  rw [exec_fscWait_enabled h]
  exact ⟨fun hframe => by rw [State.evalWait_fscWait_idle h.2 hframe],
    fun hframe => by rw [State.evalWait_fscWait_pending hframe]⟩

/-- Settles O13, by the handler's three cases. -/
theorem refreshHandlerConsumesFrame : Obligations.RefreshHandlerConsumesFrame := by
  refine ⟨by decide, fun s => ⟨exec_fscRefresh_lost, fun h hframe => ?_, fun h hframe => ?_⟩⟩
  · rw [exec_fscRefresh_enabled h, State.refreshBody_idle h hframe, bumpCounter]
  · rw [exec_fscRefresh_enabled h, State.refreshBody_pending h hframe, bumpCounter]

/-- Settles O14: FG may issue the three, and each is its writes. -/
theorem swapConfigurationWrites : Obligations.SwapConfigurationWrites :=
  ⟨by decide, fun _ h => ⟨fun _ => withFg_enabled h _, withFg_enabled h _, withFg_enabled h _,
    fun _ => withFg_enabled h _⟩⟩

/-- Settles O15, by the response to FG. -/
theorem rdcntAnswersRefreshCounter : Obligations.RdcntAnswersRefreshCounter :=
  ⟨by decide, fun _ h => exists_next_of_respond h _⟩

/-- Settles O16, by the places of the bits. -/
theorem rdstatAnswersSwapState : Obligations.RdstatAnswersSwapState := by
  refine ⟨by decide, fun s h => ⟨_, withFg_enabled h _, rfl, ?_⟩, fun _ trace draw hdraw =>
    State.resetWith_fscStatus hdraw trace draw⟩
  obtain ⟨hframe, hdraw, hdouble, hvisible, hirq, harmed⟩ := s.fscStatus_bits
  exact ⟨hframe, hdraw, hdouble, hvisible, hirq, harmed, fun _ => s.fscStatus_high⟩

end

/-! PROOFS of the family 41_bse_blit_scale: the configurations that R10 admits, the scaling functions (R141, R142), the
transfer and its region (R143 to R150), the palette (R151 to R156), BSE.CONVERT and BSE.SETPAL (R157, R158). -/

section

namespace Sys2Proof

/-! ## The constraints of R10 -/

/-- The letters of R10. -/
def IsLetter (c : Byte) : Prop := (0x41 ≤ c.toNat ∧ c.toNat ≤ 0x5A) ∨ (0x61 ≤ c.toNat ∧ c.toNat ≤ 0x7A)

/-- Flipping bit 5 turns the `j`-th capital letter into the `j`-th small one. -/
theorem capital_xor : ∀ j < 26, BitVec.ofNat 8 (0x41 + j) ^^^ 0x20 = BitVec.ofNat 8 (0x61 + j) := by decide

/-- A letter is the `j`-th capital or the `j`-th small one, and bit 5 turns each into the other. -/
theorem IsLetter.exists_index {c : Byte} (h : IsLetter c) : ∃ j < 26,
    (c = BitVec.ofNat 8 (0x41 + j) ∧ c ^^^ 0x20 = BitVec.ofNat 8 (0x61 + j))
      ∨ (c = BitVec.ofNat 8 (0x61 + j) ∧ c ^^^ 0x20 = BitVec.ofNat 8 (0x41 + j)) := by
  have hoffset : ∀ {k}, k ≤ c.toNat → c = BitVec.ofNat 8 (k + (c.toNat - k)) := fun hk => by
    rw [Nat.add_sub_cancel' hk]
    simp
  rcases h with ⟨hlo, hhi⟩ | ⟨hlo, hhi⟩
  · have hj : c.toNat - 0x41 < 26 := by omega
    exact ⟨_, hj, .inl ⟨hoffset hlo, by rw [← capital_xor _ hj, ← hoffset hlo]⟩⟩
  · have hj : c.toNat - 0x61 < 26 := by omega
    refine ⟨_, hj, .inr ⟨hoffset hlo, ?_⟩⟩
    conv_lhs => rw [hoffset hlo, ← capital_xor _ hj]
    rw [BitVec.xor_assoc, BitVec.xor_self, BitVec.xor_zero]

/-- R185: a caseless key map takes the two cases of a letter to one key. -/
theorem Board.keyOf_xor_of_caseless {b : Board} (h : b.keymapCaseless = true) {c : Byte} (hc : IsLetter c) :
    b.keyOf c = b.keyOf (c ^^^ 0x20) := by
  simp only [Board.keymapCaseless, List.all_eq_true, List.mem_range, beq_iff_eq] at h
  obtain ⟨j, hj, ⟨hcap, hsmall⟩ | ⟨hsmall, hcap⟩⟩ := hc.exists_index
  · rw [hsmall, hcap]
    exact h j hj
  · rw [hcap, hsmall]
    exact (h j hj).symm

/-- What `Board.wf` checks, by name (R10, R72, R141). -/
structure Board.Admitted (b : Board) : Prop where
  panelW_pos : 1 ≤ b.panelW
  panelH_pos : 1 ≤ b.panelH
  bpp_pos : 1 ≤ b.bpp
  fbAddr_lt : ∀ k, b.fbAddr k < 2 ^ b.aw
  regionsApart : b.fbAddr 0 + b.fbSize * b.bpp ≤ b.fbAddr 1 ∨ b.fbAddr 1 + b.fbSize * b.bpp ≤ b.fbAddr 0
  srcW_pos : 1 ≤ b.srcW
  srcH_pos : 1 ≤ b.srcH
  scaleDen_pos : 1 ≤ b.scaleDen
  scale_ge_one : b.scaleDen ≤ b.scaleNum
  nScratch_pos : 1 ≤ b.nScratch
  blitTimeout_ge : 10 ≤ b.blitTimeoutMs
  blitTimeout_lt : b.blitTimeoutMs < 100
  ringCap_pos : 1 ≤ b.ringCap
  fatalCadence_pos : 1 ≤ b.fatalCadenceMs
  keymapCaseless : b.keymapCaseless = true
  outW_le : b.outW ≤ b.panelW
  outH_le : b.outH ≤ b.panelH

theorem Board.admitted_of_wf {b : Board} (h : b.wf = true) : b.Admitted := by
  simp only [Board.wf, Bool.and_eq_true, decide_eq_true_eq, and_assoc] at h
  obtain ⟨hpanelW, hpanelH, hbpp, haddr0, haddr1, hapart, hsrcW, hsrcH, hden, hscale, hscratch, htimeout, htimeout',
    hring, hcadence, hkeymap, houtW, houtH⟩ := h
  exact {
    panelW_pos := hpanelW, panelH_pos := hpanelH, bpp_pos := hbpp
    fbAddr_lt := Fin.forall_fin_two.mpr ⟨haddr0, haddr1⟩
    regionsApart := hapart, srcW_pos := hsrcW, srcH_pos := hsrcH, scaleDen_pos := hden, scale_ge_one := hscale
    nScratch_pos := hscratch, blitTimeout_ge := htimeout, blitTimeout_lt := htimeout', ringCap_pos := hring
    fatalCadence_pos := hcadence, keymapCaseless := hkeymap, outW_le := houtW, outH_le := houtH }

/-! ## Elements by row and column -/

theorem rowMajor_mod {w x : Nat} (y : Nat) (hx : x < w) : (y * w + x) % w = x := by
  rw [Nat.mul_add_mod_self_right, Nat.mod_eq_of_lt hx]

theorem rowMajor_div {w x : Nat} (y : Nat) (hx : x < w) : (y * w + x) / w = y := by
  rw [Nat.add_comm, Nat.add_mul_div_right _ _ (Nat.zero_lt_of_lt hx), Nat.div_eq_of_lt hx, Nat.zero_add]

theorem rowMajor_lt {w h x y : Nat} (hx : x < w) (hy : y < h) : y * w + x < w * h :=
  calc y * w + x < (y + 1) * w := by rw [Nat.succ_mul]; omega
    _ ≤ h * w := Nat.mul_le_mul_right w hy
    _ = w * h := Nat.mul_comm h w

/-! ## The scaling functions (R141, R142) -/

namespace Board

variable {b : Board}

theorem scaleFn_eq_identity_iff : b.scaleFn = .identity ↔ b.scaleNum = b.scaleDen := by
  unfold scaleFn
  split_ifs <;> simp_all

theorem scaleFn_eq_dup2 (h : b.Admitted) (hscale : b.scaleNum = 2 * b.scaleDen) : b.scaleFn = .dup2 := by
  have hden := h.scaleDen_pos
  rw [scaleFn, if_neg (by omega), if_pos hscale]

theorem scaleNum_of_dup2 (h : b.scaleFn = .dup2) : b.scaleNum = 2 * b.scaleDen := by
  unfold scaleFn at h
  split_ifs at h
  assumption

/-- At SCALE = 1 the output is as wide as the source. -/
theorem outW_identity (h : b.Admitted) (hfn : b.scaleFn = .identity) : b.outW = b.srcW := by
  rw [outW, scaleFn_eq_identity_iff.mp hfn, Nat.mul_div_cancel _ h.scaleDen_pos]

theorem sampleFloor_identity (h : b.Admitted) (hfn : b.scaleFn = .identity) (x : Nat) : b.sampleFloor x = x := by
  rw [sampleFloor, scaleFn_eq_identity_iff.mp hfn, Nat.mul_div_cancel _ h.scaleDen_pos]

theorem mul_scale_dup2 (h : b.Admitted) (hfn : b.scaleFn = .dup2) (n : Nat) :
    n * b.scaleNum / b.scaleDen = 2 * n := by
  rw [scaleNum_of_dup2 hfn, ← Nat.mul_assoc, Nat.mul_div_cancel _ h.scaleDen_pos, Nat.mul_comm]

theorem outW_dup2 (h : b.Admitted) (hfn : b.scaleFn = .dup2) : b.outW = 2 * b.srcW := mul_scale_dup2 h hfn b.srcW

theorem outH_dup2 (h : b.Admitted) (hfn : b.scaleFn = .dup2) : b.outH = 2 * b.srcH := mul_scale_dup2 h hfn b.srcH

theorem sampleFloor_dup2 (h : b.Admitted) (hfn : b.scaleFn = .dup2) (x : Nat) : b.sampleFloor x = x / 2 := by
  rw [sampleFloor, scaleNum_of_dup2 hfn, Nat.mul_div_mul_right _ _ h.scaleDen_pos]

/-- R142 (b): a coordinate of the output samples inside the source. -/
theorem sampleFloor_lt (h : b.Admitted) {size x : Nat} (hx : x < size * b.scaleNum / b.scaleDen) :
    b.sampleFloor x < size := by
  have hscaled : (x + 1) * b.scaleDen ≤ size * b.scaleNum := (Nat.le_div_iff_mul_le h.scaleDen_pos).mp hx
  have hden := h.scaleDen_pos
  rw [Nat.succ_mul] at hscaled
  exact (Nat.div_lt_iff_lt_mul (hden.trans h.scale_ge_one)).mpr (by omega)

/-! ## The region (R150) -/

/-- R150: the region lies inside a row of the panel. -/
theorem Admitted.offX_add_lt (h : b.Admitted) {x : Nat} (hx : x < b.outW) : b.offX + x < b.panelW := by
  have hfit := h.outW_le
  unfold offX
  omega

/-- R150: the region lies inside a column of the panel. -/
theorem Admitted.offY_add_lt (h : b.Admitted) {y : Nat} (hy : y < b.outH) : b.offY + y < b.panelH := by
  have hfit := h.outH_le
  unfold offY
  omega

end Board

namespace Machine

/-- U7: the coordinate sampled is at most one off, in the source, and exact where the division is. -/
theorem sampleCoord_spec {b : Board} {size x : Nat} (choice : Fin 3) (h : b.sampleFloor x < size) :
    sampleCoord b size x choice < size
      ∧ sampleCoord b size x choice ≤ b.sampleFloor x + 1 ∧ b.sampleFloor x ≤ sampleCoord b size x choice + 1
      ∧ (b.samplesExactly = true → sampleCoord b size x choice = b.sampleFloor x) := by
  unfold sampleCoord
  split
  · exact ⟨h, by omega, by omega, fun _ => rfl⟩
  · split <;> exact ⟨by omega, by omega, by omega, fun hexact => absurd hexact ‹_›⟩

end Machine

end Sys2Proof

namespace Sys2Proof.Machine

/-! ## BSE.SCALE (R142) -/

/-- A source element with a definite value reads as it. -/
theorem State.readSrc_of_read {s : State} {i : Nat} {v : Byte} (h : Memory.read s.srcCpu i = some v) (j : Nat) :
    s.readSrc i j = v := by
  rw [State.readSrc, h, Option.getD_some]

/-- The state that BSE.SCALE leaves. -/
def State.scaled (s : State) : State :=
  if s.board.scaleFn = .identity then { s with rsp := 0 }
  else
    { State.drew (State.storedXsrc
        { s with scratchCpu := Memory.fill s.board.outSize s.scaledElement s.scratchCpu }) with
      rsp := 0 }

theorem exec_bseScale_enabled {s : State} (h : s.FgEnabled) : exec .bseScale s = .next s.scaled := by
  refine (withFg_enabled h _).trans (congrArg _ ?_)
  unfold State.scaled
  cases s.board.scaleFn <;> rfl

/-- R142, IDENTITY. -/
theorem State.scaled_identity {s : State} (hfn : s.board.scaleFn = .identity) : s.scaled = { s with rsp := 0 } :=
  if_pos hfn

/-- R142, DUP2 and NEAREST. -/
theorem State.scaled_scratch {s : State} (hfn : s.board.scaleFn ≠ .identity) :
    s.scaled =
      { State.drew (State.storedXsrc
          { s with scratchCpu := Memory.fill s.board.outSize s.scaledElement s.scratchCpu }) with
        rsp := 0 } := if_neg hfn

/-- R142: what a scaling into SCRATCH writes besides its elements, and what it leaves. -/
theorem State.scaled_effects {s : State} (hfn : s.board.scaleFn ≠ .identity) :
    (∀ i, s.board.outSize ≤ i → Memory.read s.scaled.scratchCpu i = Memory.read s.scratchCpu i)
      ∧ s.scaled.srcClean = false ∧ s.scaled.rsp = 0
      ∧ (s.TransferInFlight → s.scaled.bseTaint = true) ∧ (¬ s.TransferInFlight → s.scaled.bseTaint = s.bseTaint)
      ∧ { s.scaled with
          scratchCpu := s.scratchCpu, srcClean := s.srcClean, bseTaint := s.bseTaint, rsp := s.rsp
          draws := s.draws } = s := by
  rw [State.scaled_scratch hfn]
  exact ⟨fun i hi => (Memory.read_fill ..).trans (if_neg hi.not_gt), rfl, rfl, fun hflight => if_pos hflight,
    fun hidle => if_neg hidle, rfl⟩

/-- R142: an element of SCRATCH that a scaling has a value for. -/
theorem State.read_scaled {s : State} {x y : Nat} {v : Byte} (hfn : s.board.scaleFn ≠ .identity)
    (hx : x < s.board.outW) (hy : y < s.board.outH) (hv : s.scaledElement (y * s.board.outW + x) = some v) :
    Memory.read s.scaled.scratchCpu (y * s.board.outW + x) = some v := by
  rw [State.scaled_scratch hfn]
  have hin : y * s.board.outW + x < s.board.outSize := rowMajor_lt hx hy
  exact (Memory.read_fill ..).trans (by rw [if_pos hin, hv, Option.some_or])

/-- R142, DUP2: a source element is read once for its block. -/
theorem State.scaledElement_dup2 {s : State} {x : Nat} (hfn : s.board.scaleFn = .dup2) (hx : x < s.board.outW)
    (y : Nat) :
    s.scaledElement (y * s.board.outW + x)
      = some (s.readSrc (y / 2 * s.board.srcW + x / 2) (y / 2 * s.board.srcW + x / 2)) := by
  simp only [State.scaledElement, hfn, rowMajor_mod y hx, rowMajor_div y hx]

/-- R142, NEAREST, with the freedom of U7. -/
theorem State.scaledElement_nearest {s : State} {x : Nat} (hfn : s.board.scaleFn = .nearest) (hx : x < s.board.outW)
    (y : Nat) :
    ∃ cx cy j, s.scaledElement (y * s.board.outW + x)
      = some (s.readSrc (sampleCoord s.board s.board.srcH y cy * s.board.srcW
          + sampleCoord s.board s.board.srcW x cx) j) := by
  simp only [State.scaledElement, hfn, rowMajor_mod y hx, rowMajor_div y hx]
  exact ⟨_, _, _, rfl⟩

/-- R157: where the sampling is exact, DUP2 and NEAREST write the element that R157 names. -/
theorem State.scaledElement_exact {s : State} {x y : Nat} {v : Byte} (h : s.board.Admitted)
    (hexact : s.board.samplesExactly = true) (hfn : s.board.scaleFn ≠ .identity)
    (hx : x < s.board.outW) (hy : y < s.board.outH)
    (hv : Memory.read s.srcCpu (sampledElement s.board x y) = some v) :
    s.scaledElement (y * s.board.outW + x) = some v := by
  cases hscale : s.board.scaleFn with
  | identity => exact absurd hscale hfn
  | dup2 =>
    rw [sampledElement, Board.sampleFloor_dup2 h hscale, Board.sampleFloor_dup2 h hscale] at hv
    rw [State.scaledElement_dup2 hscale hx, State.readSrc_of_read hv]
  | nearest =>
    obtain ⟨cx, cy, j, e⟩ := State.scaledElement_nearest hscale hx y
    obtain ⟨-, -, -, hsx⟩ := sampleCoord_spec cx (Board.sampleFloor_lt h hx)
    obtain ⟨-, -, -, hsy⟩ := sampleCoord_spec cy (Board.sampleFloor_lt h hy)
    rw [e, hsx hexact, hsy hexact]
    exact congrArg some (State.readSrc_of_read hv j)

/-! ## BSE.FLUSH, BSE.START, BSE.WAIT (R143, R144, R146) -/

/-- The state that BSE.FLUSH leaves. -/
def State.flushed (s : State) : State := { s.setXsrcMem s.xsrcCpu with srcClean := true, rsp := 0 }

theorem exec_bseFlush_enabled {s : State} (h : s.FgEnabled) : exec .bseFlush s = .next s.flushed := withFg_enabled h _

/-- The flush of SRC. -/
theorem State.flushed_identity {s : State} (hfn : s.board.scaleFn = .identity) :
    s.flushed = { s with srcMem := s.srcCpu, srcClean := true, rsp := 0 } := by
  simp only [State.flushed, State.setXsrcMem, State.xsrcCpu, hfn]

/-- The flush of SCRATCH. -/
theorem State.flushed_scratch {s : State} (hfn : s.board.scaleFn ≠ .identity) :
    s.flushed = { s with scratchMem := s.scratchCpu, srcClean := true, rsp := 0 } := by
  cases hscale : s.board.scaleFn with
  | identity => exact absurd hscale hfn
  | dup2 | nearest => simp only [State.flushed, State.setXsrcMem, State.xsrcCpu, hscale]

/-- The state that BSE.START leaves. -/
def State.started (s : State) : State :=
  { s with
    bseBusy := true, bseDone := false, bseT0 := s.now, bseDst := s.drawIndex, bseTaint := !s.srcClean, rsp := 0 }

theorem exec_bseStart_free {s : State} (h : s.FgEnabled) (hbse : s.bseBusy = false) (hpal : s.palBusy = false) :
    exec .bseStart s = .next s.started :=
  (withFg_enabled h _).trans (if_neg (by simp [State.UnitBusy, hbse, hpal]))

theorem exec_bseStart_busy {s : State} (h : s.FgEnabled) (hbusy : s.UnitBusy) :
    exec .bseStart s = .refused .unitBusy := (withFg_enabled h _).trans (if_pos hbusy)

theorem exec_bseWait_enabled {s : State} (h : s.FgEnabled) : exec .bseWait s = .next (s.evalWait .bseWait) :=
  withFg_enabled h _

/-- R146, on issue. -/
theorem State.evalWait_bseWait (s : State) :
    s.evalWait .bseWait =
      if s.bseBusy = false ∨ s.bseDone = true then { s with bseBusy := false, fgHold := .none, rsp := 0 }
      else if s.board.blitTimeoutMs < (s.now - s.bseT0).toNat then s.fatalEntry 1
      else { s with fgHold := .bseWait } := by
  rw [State.evalWait, State.waitOutcome_bseWait]
  split_ifs <;> rfl

/-! ## BSE.DONE (R145) -/

section

variable {b : Board} {x y : Nat}

theorem regionElement_lt (h : b.Admitted) (hx : x < b.outW) (hy : y < b.outH) : regionElement b x y < b.fbSize :=
  rowMajor_lt (h.offX_add_lt hx) (h.offY_add_lt hy)

/-- R145: the region is the elements that a transfer writes. -/
theorem inRegion_iff (h : b.Admitted) {i : Nat} :
    b.inRegion i = true ↔ ∃ x y, x < b.outW ∧ y < b.outH ∧ i = regionElement b x y := by
  simp only [Board.inRegion, Bool.and_eq_true, decide_eq_true_eq]
  constructor
  · rintro ⟨⟨⟨hx, hx'⟩, hy⟩, hy'⟩
    refine ⟨i % b.panelW - b.offX, i / b.panelW - b.offY, by omega, by omega, ?_⟩
    rw [regionElement, Nat.add_sub_cancel' hx, Nat.add_sub_cancel' hy, Nat.div_add_mod']
  · rintro ⟨x, y, hx, hy, rfl⟩
    rw [regionElement, rowMajor_mod _ (h.offX_add_lt hx), rowMajor_div _ (h.offX_add_lt hx)]
    omega

/-- R145: the transfer converts the source element of the same place. -/
theorem regionSource_regionElement (h : b.Admitted) (hx : x < b.outW) :
    b.regionSource (regionElement b x y) = y * b.outW + x := by
  rw [Board.regionSource, regionElement, rowMajor_mod _ (h.offX_add_lt hx), rowMajor_div _ (h.offX_add_lt hx),
    Nat.add_sub_cancel_left, Nat.add_sub_cancel_left]

end

/-- The state that BSE.DONE leaves to the evaluation of a held wait. -/
def State.transferred (s : State) : State :=
  { State.drew (s.setFb s.bseDst (Memory.fill s.board.fbSize s.transferPixel (s.fb s.bseDst))) with bseDone := true }

theorem exec_bseDone_inFlight {s : State} (h : s.TransferInFlight) :
    exec .bseDone s = .next s.transferred.reevaluate := if_pos h

theorem exec_bseDone_idle {s : State} (h : ¬ s.TransferInFlight) : exec .bseDone s = .refused .nothingInFlight :=
  if_neg h

/-- R145: a transfer writes pixels, `bse_done`, and nothing else. -/
theorem State.transferred_frame (s : State) :
    { s.transferred with fb0 := s.fb0, fb1 := s.fb1, bseDone := s.bseDone, draws := s.draws } = s := by
  unfold State.transferred State.setFb
  split <;> rfl

@[simp] theorem State.transferred_fields (s : State) :
    s.transferred.sysState = s.sysState ∧ s.transferred.fgHold = s.fgHold := by
  simp [State.transferred, State.drew]

theorem State.transferred_fb_eq_setFb (s : State) (k : FbIndex) :
    s.transferred.fb k = (s.setFb s.bseDst (Memory.fill s.board.fbSize s.transferPixel (s.fb s.bseDst))).fb k := by
  simp only [State.fb, State.transferred, State.drew]

theorem State.transferred_fb (s : State) :
    s.transferred.fb s.bseDst = Memory.fill s.board.fbSize s.transferPixel (s.fb s.bseDst) := by
  rw [s.transferred_fb_eq_setFb, State.setFb_fb]

theorem State.transferred_fb_other (s : State) {k : FbIndex} (hk : k ≠ s.bseDst) : s.transferred.fb k = s.fb k := by
  rw [s.transferred_fb_eq_setFb, State.setFb_fb_other s hk]

/-- R145: a pixel of the region has a value. -/
theorem State.exists_transferPixel {s : State} {i : Nat} (h : s.board.inRegion i = true) :
    ∃ p, s.transferPixel i = some p := by
  rw [State.transferPixel, if_pos h]
  split_ifs <;> exact ⟨_, rfl⟩

theorem State.transferPixel_outside {s : State} {i : Nat} (h : ¬ s.board.inRegion i = true) :
    s.transferPixel i = none := if_neg h

/-- R145, R147: the conversion of an index that was flushed, in a clean transfer with a palette loaded. -/
theorem State.transferPixel_clean {s : State} {x y : Nat} {idx : Byte} (h : s.board.Admitted)
    (hx : x < s.board.outW) (hy : y < s.board.outH) (htaint : s.bseTaint = false) (hvalid : s.clutValid = true)
    (hidx : Memory.read s.xsrcMem (y * s.board.outW + x) = some idx) :
    s.transferPixel (regionElement s.board x y) = some (s.board.pixel (s.clutHw[idx.toNat]'idx.isLt)) := by
  rw [State.transferPixel, if_pos ((inRegion_iff h).mpr ⟨x, y, hx, hy, rfl⟩),
    if_neg (by simp [State.TransferUnknown, htaint, hvalid]), regionSource_regionElement h hx, State.readXsrcMem, hidx]
  rfl

/-- R145: the region after the transfer. -/
theorem State.read_transferred_region {s : State} {x y : Nat} {p : Pixel} (h : s.board.Admitted)
    (hx : x < s.board.outW) (hy : y < s.board.outH) (hp : s.transferPixel (regionElement s.board x y) = some p) :
    Memory.read (s.transferred.fb s.bseDst) (regionElement s.board x y) = some p := by
  rw [State.transferred_fb, Memory.read_fill, if_pos (regionElement_lt h hx hy), hp, Option.some_or]

/-- R145: the pixels outside the region after the transfer. -/
theorem State.read_transferred_outside {s : State} {i : Nat} (h : s.board.Admitted)
    (hi : ∀ x y, x < s.board.outW → y < s.board.outH → i ≠ regionElement s.board x y) :
    Memory.read (s.transferred.fb s.bseDst) i = Memory.read (s.fb s.bseDst) i := by
  have hout : ¬ s.board.inRegion i = true := fun hin => by
    obtain ⟨x, y, hx, hy, e⟩ := (inRegion_iff h).mp hin
    exact hi x y hx hy e
  rw [State.transferred_fb, Memory.read_fill, State.transferPixel_outside hout, Option.none_or, ite_self]

/-! ## The palette (R151 to R156) -/

/-- The state that BSE.PALBUILD leaves. -/
def State.paletteBuilt (s : State) : State :=
  { s.drew with
    clutCpu := Memory.fill 256 (fun i => some (s.builtEntry i)) s.clutCpu
    clutClean := false
    palTaint := if s.LoadInFlight then true else s.palTaint
    rsp := 0 }

theorem exec_bsePalbuild_enabled {s : State} (h : s.FgEnabled) : exec .bsePalbuild s = .next s.paletteBuilt :=
  withFg_enabled h _

theorem State.read_paletteBuilt (s : State) {i : Nat} (hi : i < 256) :
    Memory.read s.paletteBuilt.clutCpu i = some (s.builtEntry i) :=
  (Memory.read_fill ..).trans (by rw [if_pos hi, Option.some_or])

theorem State.read_paletteBuilt_above (s : State) {i : Nat} (hi : 256 ≤ i) :
    Memory.read s.paletteBuilt.clutCpu i = Memory.read s.clutCpu i :=
  (Memory.read_fill ..).trans (if_neg hi.not_gt)

/-- R151: the entry built from a triple of PAL_IN. -/
theorem State.builtEntry_of_read {s : State} {i : Nat} {c : Rgb} (h : Memory.read s.palIn i = some c) :
    s.builtEntry i = s.board.pack (s.board.gammaOf c.r) (s.board.gammaOf c.g) (s.board.gammaOf c.b) := by
  simp only [State.builtEntry, State.readPalIn, h, Option.getD_some]

/-- The state that BSE.PALFLUSH leaves. -/
def State.paletteFlushed (s : State) : State := { s with clutMem := s.clutCpu, clutClean := true, rsp := 0 }

theorem exec_bsePalflush_enabled {s : State} (h : s.FgEnabled) : exec .bsePalflush s = .next s.paletteFlushed :=
  withFg_enabled h _

/-- The state that BSE.PALLOAD leaves. -/
def State.loadStarted (s : State) : State :=
  { s with
    palBusy := true, palDone := false, palErr := false, palT0 := s.now, palTaint := !s.clutClean, rsp := 0 }

theorem exec_bsePalload_free {s : State} (h : s.FgEnabled) (hbse : s.bseBusy = false) (hpal : s.palBusy = false) :
    exec .bsePalload s = .next s.loadStarted :=
  (withFg_enabled h _).trans (if_neg (by simp [State.UnitBusy, hbse, hpal]))

theorem exec_bsePalload_busy {s : State} (h : s.FgEnabled) (hbusy : s.UnitBusy) :
    exec .bsePalload s = .refused .unitBusy := (withFg_enabled h _).trans (if_pos hbusy)

theorem exec_bsePalwait_enabled {s : State} (h : s.FgEnabled) : exec .bsePalwait s = .next (s.evalWait .palWait) :=
  withFg_enabled h _

/-- R156, on issue. -/
theorem State.evalWait_palWait (s : State) :
    s.evalWait .palWait =
      if s.palBusy = false ∨ s.palDone = true then { s with palBusy := false, fgHold := .none, rsp := 0 }
      else if s.palErr = true ∨ s.board.clutTimeoutMs < (s.now - s.palT0).toNat then s.fatalEntry 2
      else { s with fgHold := .palWait } := by
  rw [State.evalWait, State.waitOutcome_palWait]
  split_ifs <;> rfl

/-- The state that BSE.PALDONE leaves to the evaluation of a held wait. -/
def State.clutLoaded (s : State) : State :=
  { s.drew with clutHw := Vector.ofFn fun i => s.loadedEntry i.val, clutValid := true, palDone := true }

theorem exec_bsePaldone_pending {s : State} (h : s.LoadPending) :
    exec .bsePaldone s = .next s.clutLoaded.reevaluate := if_pos h

theorem State.clutLoaded_frame (s : State) :
    { s.clutLoaded with clutHw := s.clutHw, clutValid := s.clutValid, palDone := s.palDone, draws := s.draws } = s := by
  unfold State.clutLoaded
  rfl

@[simp] theorem State.clutLoaded_fields (s : State) :
    s.clutLoaded.clutValid = true ∧ s.clutLoaded.palDone = true ∧ s.clutLoaded.fgHold = s.fgHold
      ∧ s.clutLoaded.fb0 = s.fb0 ∧ s.clutLoaded.fb1 = s.fb1 := by
  simp only [State.clutLoaded, State.drew, and_self]

/-- R154: the entries of an untainted load. -/
theorem State.clutLoaded_entry {s : State} {i : Byte} {e : ClutEntry} (htaint : s.palTaint = false)
    (h : Memory.read s.clutMem i.toNat = some e) : s.clutLoaded.clutHw[i.toNat]'i.isLt = e := by
  simp [State.clutLoaded, State.loadedEntry, State.readClutMem, htaint, h]

/-- The state that BSE.PALERR leaves to the evaluation of a held wait. -/
def State.loadFailed (s : State) : State :=
  { s.drew with palErr := true, clutHw := Vector.ofFn fun i => Config.anyEntry s.draws i.val, clutValid := false }

theorem State.loadFailed_frame (s : State) :
    { s.loadFailed with clutHw := s.clutHw, clutValid := s.clutValid, palErr := s.palErr, draws := s.draws } = s := by
  unfold State.loadFailed
  rfl

theorem exec_bsePalerr_pending {s : State} (h : s.LoadPending) :
    exec .bsePalerr s = .next s.loadFailed.reevaluate := if_pos h

/-! ## BSE.CONVERT and BSE.SETPAL (R157, R158) -/

theorem execAll_cons {i : Instr} {s t : State} (h : exec i s = .next t) (is : List Instr) :
    execAll (i :: is) s = execAll is t := by
  rw [execAll, h]

/-- The state with the clock advanced (R210). -/
def State.ticked (s : State) (n : Byte) : State := { s with now := s.now + n.setWidth 32 }

/-- What the clock leaves, of the registers that a wait, a transfer and a load read. -/
@[simp] theorem State.ticked_fields (s : State) (n : Byte) :
    (s.ticked n).board = s.board ∧ (s.ticked n).sysState = s.sysState ∧ (s.ticked n).alreadyFailed = s.alreadyFailed
      ∧ (s.ticked n).fgHold = s.fgHold ∧ (s.ticked n).frameReady = s.frameReady ∧ (s.ticked n).bseBusy = s.bseBusy
      ∧ (s.ticked n).bseDone = s.bseDone ∧ (s.ticked n).bseT0 = s.bseT0 ∧ (s.ticked n).bseDst = s.bseDst
      ∧ (s.ticked n).bseTaint = s.bseTaint ∧ (s.ticked n).clutHw = s.clutHw ∧ (s.ticked n).clutValid = s.clutValid
      ∧ (s.ticked n).palBusy = s.palBusy ∧ (s.ticked n).palDone = s.palDone ∧ (s.ticked n).palErr = s.palErr
      ∧ (s.ticked n).palT0 = s.palT0 ∧ (s.ticked n).palTaint = s.palTaint ∧ (s.ticked n).clutMem = s.clutMem
      ∧ (s.ticked n).xsrcMem = s.xsrcMem ∧ (s.ticked n).fb0 = s.fb0 ∧ (s.ticked n).fb1 = s.fb1 := by
  repeat' constructor

@[simp] theorem State.ticked_now (s : State) (n : Byte) : (s.ticked n).now = s.now + n.setWidth 32 := rfl

theorem exec_envClk (n : Byte) (s : State) : exec (.envClk n) s = .next (s.ticked n).reevaluate := rfl

/-- R12: the time since a reading of the clock that an ENV.CLK follows. -/
theorem toNat_elapsed (t : Word32) (n : Byte) : (t + n.setWidth 32 - t).toNat = n.toNat := by
  rw [add_sub_cancel_left]
  exact BitVec.toNat_setWidth_of_le (by decide)

/-! ### BSE.CONVERT (R157) -/

/-- What a scaling leaves, in either case. -/
@[simp] theorem State.scaled_fields (s : State) :
    s.scaled.board = s.board ∧ s.scaled.sysState = s.sysState ∧ s.scaled.alreadyFailed = s.alreadyFailed
      ∧ s.scaled.fgHold = s.fgHold ∧ s.scaled.now = s.now ∧ s.scaled.drawIndex = s.drawIndex
      ∧ s.scaled.frameReady = s.frameReady ∧ s.scaled.bseBusy = s.bseBusy ∧ s.scaled.palBusy = s.palBusy
      ∧ s.scaled.clutHw = s.clutHw ∧ s.scaled.clutValid = s.clutValid ∧ s.scaled.fb0 = s.fb0
      ∧ s.scaled.fb1 = s.fb1 := by
  unfold State.scaled
  split <;> (repeat' constructor)

/-- The state in which BSE.CONVERT waits for its transfer. -/
def State.converting (s : State) : State := { s.scaled.flushed.started with fgHold := .bseWait }

/-- R157: BSE.CONVERT up to its wait. -/
theorem execAll_converting {s : State} (hfg : s.FgEnabled) (hbse : s.bseBusy = false) (hpal : s.palBusy = false)
    (is : List Instr) :
    execAll (.bseScale :: .bseFlush :: .bseStart :: .bseWait :: is) s = execAll is s.converting := by
  have hscaled : s.scaled.FgEnabled := by simpa [State.FgEnabled] using hfg
  have hflushed : s.scaled.flushed.FgEnabled := by simpa [State.flushed, State.FgEnabled] using hfg
  have hstarted : s.scaled.flushed.started.FgEnabled := hflushed
  have hbse' : s.scaled.flushed.bseBusy = false := by simpa [State.flushed] using hbse
  have hpal' : s.scaled.flushed.palBusy = false := by simpa [State.flushed] using hpal
  have hheld : s.scaled.flushed.started.evalWait .bseWait = s.converting := by
    rw [State.evalWait_bseWait, if_neg (by simp [State.started]), if_neg (by simp [State.started])]
    rfl
  rw [execAll_cons (exec_bseScale_enabled hfg), execAll_cons (exec_bseFlush_enabled hscaled),
    execAll_cons (exec_bseStart_free hflushed hbse' hpal'), execAll_cons (exec_bseWait_enabled hstarted), hheld]

/-- What BSE.CONVERT leaves until its transfer completes, and the transfer it has triggered. -/
@[simp] theorem State.converting_fields (s : State) :
    s.converting.board = s.board ∧ s.converting.sysState = s.sysState ∧ s.converting.alreadyFailed = s.alreadyFailed
      ∧ s.converting.fgHold = .bseWait ∧ s.converting.now = s.now ∧ s.converting.frameReady = s.frameReady
      ∧ s.converting.bseBusy = true ∧ s.converting.bseDone = false ∧ s.converting.bseT0 = s.now
      ∧ s.converting.bseDst = s.drawIndex ∧ s.converting.bseTaint = false ∧ s.converting.clutHw = s.clutHw
      ∧ s.converting.clutValid = s.clutValid ∧ s.converting.fb0 = s.fb0 ∧ s.converting.fb1 = s.fb1 := by
  simp [State.converting, State.started, State.flushed]

/-- R143: the transfer reads what the CPU has written. -/
theorem State.converting_xsrcMem (s : State) : s.converting.xsrcMem = s.scaled.xsrcCpu := by
  cases hfn : s.board.scaleFn <;>
    simp [State.xsrcMem, State.xsrcCpu, State.converting, State.started, State.flushed, State.setXsrcMem, hfn]

/-- R157: the flushed image is the upscaled source, in each of the three scaling functions. -/
theorem State.read_converting {s : State} {x y : Nat} {v : Byte} (h : s.board.Admitted)
    (hexact : s.board.samplesExactly = true) (hx : x < s.board.outW) (hy : y < s.board.outH)
    (hv : Memory.read s.srcCpu (sampledElement s.board x y) = some v) :
    Memory.read s.converting.xsrcMem (y * s.board.outW + x) = some v := by
  rw [State.converting_xsrcMem, State.xsrcCpu, s.scaled_fields.1]
  by_cases hfn : s.board.scaleFn = .identity
  · rw [sampledElement, Board.sampleFloor_identity h hfn, Board.sampleFloor_identity h hfn,
      ← Board.outW_identity h hfn] at hv
    rw [State.scaled_identity hfn, hfn]
    exact hv
  · have hscaled := State.read_scaled hfn hx hy (State.scaledElement_exact h hexact hfn hx hy hv)
    cases hscale : s.board.scaleFn with
    | identity => exact absurd hscale hfn
    | dup2 | nearest => exact hscaled

/-- R146: up to the deadline the wait stays held. -/
theorem State.reevaluate_converting_ticked {s : State} {n : Byte} (hn : n.toNat ≤ s.board.blitTimeoutMs) :
    (s.converting.ticked n).reevaluate = s.converting.ticked n := by
  rw [State.reevaluate_bseWait (by simp), if_neg (by simp), if_neg]
  simpa only [State.ticked_fields, State.ticked_now, State.converting_fields, toNat_elapsed, not_lt] using hn

/-- R146: past the deadline the wait ends in the fatal entry with cause 1. -/
theorem State.reevaluate_converting_late {s : State} {n : Byte} (hn : s.board.blitTimeoutMs < n.toNat) :
    (s.converting.ticked n).reevaluate = (s.converting.ticked n).fatalEntry 1 := by
  rw [State.reevaluate_bseWait (by simp), if_neg (by simp), if_pos]
  simpa only [State.ticked_fields, State.ticked_now, State.converting_fields, toNat_elapsed] using hn

/-- The state that BSE.CONVERT leaves when its transfer completes `n` milliseconds after its start. -/
def State.converted (s : State) (n : Byte) : State :=
  { (s.converting.ticked n).transferred with bseBusy := false, fgHold := .none, frameReady := true, rsp := 0 }

/-- R157: BSE.CONVERT with its transfer completing before the deadline. -/
theorem execAll_converted {s : State} {n : Byte} (hfg : s.FgEnabled) (hbse : s.bseBusy = false)
    (hpal : s.palBusy = false) (hn : n.toNat ≤ s.board.blitTimeoutMs) :
    execAll [.bseScale, .bseFlush, .bseStart, .bseWait, .envClk n, .bseDone, .fscSubmit] s = .next (s.converted n) := by
  have hflight : (s.converting.ticked n).TransferInFlight := by simp [State.TransferInFlight]
  have hdone : (s.converting.ticked n).transferred.reevaluate
      = { (s.converting.ticked n).transferred with bseBusy := false, fgHold := .none, rsp := 0 } := by
    rw [State.reevaluate_bseWait (by simp), if_pos (.inr rfl)]
  have hawake : State.FgEnabled
      { (s.converting.ticked n).transferred with bseBusy := false, fgHold := .none, rsp := 0 } :=
    ⟨by simpa using hfg.1, rfl⟩
  rw [execAll_converting hfg hbse hpal, execAll_cons (exec_envClk n _), State.reevaluate_converting_ticked hn,
    execAll_cons (exec_bseDone_inFlight hflight), hdone, execAll_cons (exec_fscSubmit_enabled hawake), execAll,
    State.converted]

theorem State.converted_sysState (s : State) (n : Byte) : (s.converted n).sysState = s.sysState := by
  simp [State.converted]

/-- R157: the pixels of the transfer that BSE.CONVERT has triggered. -/
theorem State.transferPixel_converting {s : State} {x y : Nat} {v : Byte} (n : Byte) (h : s.board.Admitted)
    (hexact : s.board.samplesExactly = true) (hvalid : s.clutValid = true) (hx : x < s.board.outW)
    (hy : y < s.board.outH) (hv : Memory.read s.srcCpu (sampledElement s.board x y) = some v) :
    (s.converting.ticked n).transferPixel (regionElement s.board x y)
      = some (s.board.pixel (s.clutHw[v.toNat]'v.isLt)) := by
  have hclean := @State.transferPixel_clean (s.converting.ticked n) x y v
  simp only [State.ticked_fields, State.converting_fields] at hclean
  exact hclean h hx hy trivial hvalid (State.read_converting h hexact hx hy hv)

theorem State.converted_fb (s : State) (n : Byte) (k : FbIndex) :
    (s.converted n).fb k = (s.converting.ticked n).transferred.fb k := by
  simp only [State.fb, State.converted]

/-- R157: the region of the draw buffer holds the converted, upscaled image. -/
theorem State.read_converted_region {s : State} {x y : Nat} {v : Byte} (n : Byte) (h : s.board.Admitted)
    (hexact : s.board.samplesExactly = true) (hvalid : s.clutValid = true) (hx : x < s.board.outW)
    (hy : y < s.board.outH) (hv : Memory.read s.srcCpu (sampledElement s.board x y) = some v) :
    Memory.read ((s.converted n).fb s.drawIndex) (regionElement s.board x y)
      = some (s.board.pixel (s.clutHw[v.toNat]'v.isLt)) := by
  have hregion := @State.read_transferred_region (s.converting.ticked n) x y
  simp only [State.ticked_fields, State.converting_fields] at hregion
  rw [State.converted_fb]
  exact hregion h hx hy (State.transferPixel_converting n h hexact hvalid hx hy hv)

/-- R157: every other pixel of the draw buffer is unchanged. -/
theorem State.read_converted_outside {s : State} {i : Nat} (n : Byte) (h : s.board.Admitted)
    (hi : ∀ x y, x < s.board.outW → y < s.board.outH → i ≠ regionElement s.board x y) :
    Memory.read ((s.converted n).fb s.drawIndex) i = Memory.read (s.fb s.drawIndex) i := by
  have hfb : (s.converting.ticked n).fb s.drawIndex = s.fb s.drawIndex := by simp [State.fb]
  have hout := @State.read_transferred_outside (s.converting.ticked n) i
  simp only [State.ticked_fields, State.converting_fields, hfb] at hout
  rw [State.converted_fb]
  exact hout h hi

/-! ### BSE.SETPAL (R158) -/

/-- The state in which BSE.SETPAL waits for its load. -/
def State.paletteLoading (s : State) : State :=
  { s.paletteBuilt.paletteFlushed.loadStarted with fgHold := .palWait }

/-- R158: BSE.SETPAL up to its wait. -/
theorem execAll_paletteLoading {s : State} (hfg : s.FgEnabled) (hbse : s.bseBusy = false) (hpal : s.palBusy = false)
    (is : List Instr) :
    execAll (.bsePalbuild :: .bsePalflush :: .bsePalload :: .bsePalwait :: is) s = execAll is s.paletteLoading := by
  have hbuilt : s.paletteBuilt.FgEnabled := hfg
  have hflushed : s.paletteBuilt.paletteFlushed.FgEnabled := hbuilt
  have hstarted : s.paletteBuilt.paletteFlushed.loadStarted.FgEnabled := hflushed
  have hbse' : s.paletteBuilt.paletteFlushed.bseBusy = false := hbse
  have hpal' : s.paletteBuilt.paletteFlushed.palBusy = false := hpal
  rw [execAll_cons (exec_bsePalbuild_enabled hfg), execAll_cons (exec_bsePalflush_enabled hbuilt),
    execAll_cons (exec_bsePalload_free hflushed hbse' hpal'), execAll_cons (exec_bsePalwait_enabled hstarted),
    State.evalWait_palWait, if_neg (by simp [State.loadStarted]), if_neg (by simp [State.loadStarted])]
  rfl

/-- What BSE.SETPAL leaves until its load completes, and the load it has started. -/
@[simp] theorem State.paletteLoading_fields (s : State) :
    s.paletteLoading.board = s.board ∧ s.paletteLoading.fgHold = .palWait ∧ s.paletteLoading.now = s.now
      ∧ s.paletteLoading.palBusy = true ∧ s.paletteLoading.palDone = false ∧ s.paletteLoading.palErr = false
      ∧ s.paletteLoading.palT0 = s.now ∧ s.paletteLoading.palTaint = false
      ∧ s.paletteLoading.clutMem = s.paletteBuilt.clutCpu ∧ s.paletteLoading.fb0 = s.fb0
      ∧ s.paletteLoading.fb1 = s.fb1 := by
  simp [State.paletteLoading, State.loadStarted, State.paletteFlushed, State.paletteBuilt, State.drew]

/-- R156: up to the deadline the wait stays held. -/
theorem State.reevaluate_paletteLoading_ticked {s : State} {n : Byte} (hn : n.toNat ≤ s.board.clutTimeoutMs) :
    (s.paletteLoading.ticked n).reevaluate = s.paletteLoading.ticked n := by
  rw [State.reevaluate_palWait (by simp), if_neg (by simp), if_neg]
  simpa only [State.ticked_fields, State.ticked_now, State.paletteLoading_fields, toNat_elapsed, Bool.false_eq_true,
    false_or, not_lt] using hn

/-- The state that BSE.SETPAL leaves when its load completes `n` milliseconds after its start. -/
def State.paletteSet (s : State) (n : Byte) : State :=
  { (s.paletteLoading.ticked n).clutLoaded with palBusy := false, fgHold := .none, rsp := 0 }

/-- R158: BSE.SETPAL with its load completing before the deadline. -/
theorem execAll_paletteSet {s : State} {n : Byte} (hfg : s.FgEnabled) (hbse : s.bseBusy = false)
    (hpal : s.palBusy = false) (hn : n.toNat ≤ s.board.clutTimeoutMs) :
    execAll [.bsePalbuild, .bsePalflush, .bsePalload, .bsePalwait, .envClk n, .bsePaldone] s
      = .next (s.paletteSet n) := by
  have hpending : (s.paletteLoading.ticked n).LoadPending := by simp [State.LoadPending]
  rw [execAll_paletteLoading hfg hbse hpal, execAll_cons (exec_envClk n _), State.reevaluate_paletteLoading_ticked hn,
    execAll_cons (exec_bsePaldone_pending hpending), State.reevaluate_palWait (by simp), if_pos (.inr (by simp)),
    execAll, State.paletteSet]

/-- R158: the palette that BSE.SETPAL leaves in CLUT_HW. -/
theorem State.paletteSet_entry (s : State) (n i : Byte) :
    (s.paletteSet n).clutHw[i.toNat]'i.isLt = s.builtEntry i.toNat := by
  have hflushed : Memory.read (s.paletteLoading.ticked n).clutMem i.toNat = some (s.builtEntry i.toNat) :=
    by simpa using s.read_paletteBuilt i.isLt
  have hclean : (s.paletteLoading.ticked n).palTaint = false := by simp
  simp only [State.paletteSet]
  exact State.clutLoaded_entry hclean hflushed

/-- What BSE.SETPAL leaves of its unit, and that it leaves the framebuffers. -/
theorem State.paletteSet_fields (s : State) (n : Byte) :
    (s.paletteSet n).clutValid = true ∧ (s.paletteSet n).palBusy = false ∧ (s.paletteSet n).fgHold = .none
      ∧ (s.paletteSet n).fb0 = s.fb0 ∧ (s.paletteSet n).fb1 = s.fb1 := by
  simp [State.paletteSet]

end Sys2Proof.Machine

end

/-! The obligations of the family. -/

section

open Sys2Proof Sys2Proof.Machine

/-- Settles O22: each of the four writes of a block reads the block's one source element. -/
theorem scaleByTwoDuplicatesPixels : Obligations.ScaleByTwoDuplicatesPixels := by
  intro s hfg hwf hscale
  have hboard := Board.admitted_of_wf hwf
  have hdup := Board.scaleFn_eq_dup2 hboard hscale
  have hfn : s.board.scaleFn ≠ .identity := by simp [hdup]
  have houtW := Board.outW_dup2 hboard hdup
  have houtH := Board.outH_dup2 hboard hdup
  refine ⟨_, exec_bseScale_enabled hfg, fun x y dx dy hx hy hdx hdy => ?_, State.scaled_effects hfn⟩
  have hblock : ∀ {ex ey}, ex < 2 → ey < 2 →
      Memory.read s.scaled.scratchCpu ((2 * y + ey) * s.board.outW + (2 * x + ex))
        = some (s.readSrc (y * s.board.srcW + x) (y * s.board.srcW + x)) := by
    intro ex ey hex hey
    refine State.read_scaled hfn (by omega) (by omega) ?_
    rw [State.scaledElement_dup2 hdup (by omega), show (2 * y + ey) / 2 = y by omega,
      show (2 * x + ex) / 2 = x by omega]
  exact ⟨_, fun _ hu => State.readSrc_of_read hu _, hblock hdx hdy, hblock two_pos two_pos⟩

/-- Settles O23: the sampled coordinates are those of `sampleCoord`, whose bounds are R142 (b) and U7. -/
theorem scaleSamplesNearestNeighbour : Obligations.ScaleSamplesNearestNeighbour := by
  intro s hfg hwf hnearest
  have hboard := Board.admitted_of_wf hwf
  have hfn : s.board.scaleFn ≠ .identity := by simp [hnearest]
  refine ⟨_, exec_bseScale_enabled hfg, fun x y hx hy => ?_, State.scaled_effects hfn⟩
  obtain ⟨cx, cy, j, e⟩ := State.scaledElement_nearest hnearest hx y
  obtain ⟨hsx, hsx_le, hle_sx, hexact_x⟩ := sampleCoord_spec cx (Board.sampleFloor_lt hboard hx)
  obtain ⟨hsy, hsy_le, hle_sy, hexact_y⟩ := sampleCoord_spec cy (Board.sampleFloor_lt hboard hy)
  exact ⟨_, _, _, hsx, hsy, hsx_le, hle_sx, hsy_le, hle_sy, fun hexact => ⟨hexact_x hexact, hexact_y hexact⟩,
    fun _ hu => State.readSrc_of_read hu j, State.read_scaled hfn hx hy e⟩

/-- Settles O27, by the region's geometry and the bulk store of the transfer's pixels. -/
theorem transferConvertsCentredRegion : Obligations.TransferConvertsCentredRegion := by
  refine ⟨by decide, fun s hwf => ⟨fun hflight => ?_, exec_bseDone_idle⟩⟩
  have hboard := Board.admitted_of_wf hwf
  refine ⟨s.transferred, exec_bseDone_inFlight hflight, fun x y hx hy => ?_,
    fun i => State.read_transferred_outside hboard, fun k => s.transferred_fb_other, rfl, s.transferred_frame⟩
  obtain ⟨p, hp⟩ := State.exists_transferPixel ((inRegion_iff hboard).mpr ⟨x, y, hx, hy, rfl⟩)
  refine ⟨p, State.read_transferred_region hboard hx hy hp, State.transferPixel_lt hp,
    fun htaint hvalid idx hidx => ?_⟩
  exact Option.some.inj (hp.symm.trans (State.transferPixel_clean hboard hx hy htaint hvalid hidx))

/-- Settles O32: the transfer that BSE.CONVERT waits for is clean and reads the upscaled image. -/
theorem convertPresentsScaledImage : Obligations.ConvertPresentsScaledImage := by
  intro s n hwf hfg hexact hvalid _ hbse hpal hn
  have hboard := Board.admitted_of_wf hwf
  exact ⟨s.converted n, execAll_converted hfg hbse hpal hn,
    fun _ _ hx hy _ => State.read_converted_region n hboard hexact hvalid hx hy,
    fun _ => State.read_converted_outside n hboard, rfl, rfl, rfl, (s.converted_sysState n).trans hfg.1⟩

/-- Settles O33: the clock passes the deadline while the wait is held. -/
theorem convertTimesOutFatally : Obligations.ConvertTimesOutFatally := by
  intro s n _ hfg hlatch hbse hpal hn
  have hunlatched : (s.converting.ticked n).alreadyFailed = false := by simpa using hlatch
  obtain ⟨hfailed, hstate, hcause, -⟩ := State.fatalEntry_first 1 hunlatched
  refine ⟨(s.converting.ticked n).fatalEntry 1, ?_, hstate, hcause, hfailed, by simp, by simp, ?_⟩
  · rw [execAll_converting hfg hbse hpal, execAll_cons (exec_envClk n _), State.reevaluate_converting_late hn]
    rfl
  · exact withFg_refused (fun hon => nomatch hstate.symm.trans hon.1) _

/-- Settles O34: the load that BSE.SETPAL waits for is untainted and reads the palette built. -/
theorem setpalLoadsGammaCorrectedPalette : Obligations.SetpalLoadsGammaCorrectedPalette := by
  intro s n hfg hbse hpal hn
  refine ⟨s.paletteSet n, execAll_paletteSet hfg hbse hpal hn, fun i c hc => ?_, s.paletteSet_fields n⟩
  rw [s.paletteSet_entry n i, State.builtEntry_of_read hc]

/-- Settles O8: an admitted board meets each of the constraints. -/
theorem badConfigurationIsRefused : Obligations.BadConfigurationIsRefused := by
  intro s inp rest htrace hbad
  suffices hwf : ¬ s.board.wf = true by simp [step, htrace, hwf]
  intro hwf
  obtain ⟨hpanelW, hpanelH, hbpp, haddr, hapart, hsrcW, hsrcH, hden, hscale, hscratch, htimeout, htimeout', hring,
    hcadence, hkeymap, houtW, houtH⟩ := Board.admitted_of_wf hwf
  have hlong : ¬ ∃ k, 2 ^ s.board.aw ≤ s.board.fbAddr k := fun ⟨k, hk⟩ => (haddr k).not_ge hk
  have hcased : ¬ ∃ c, IsLetter c ∧ s.board.keyOf c ≠ s.board.keyOf (c ^^^ 0x20) :=
    fun ⟨c, hletter, hne⟩ => hne (Board.keyOf_xor_of_caseless hkeymap hletter)
  unfold IsLetter at hcased
  simp only [hlong, hcased, false_or, or_false] at hbad
  omega

/-- Settles O21. -/
theorem scaleAtOneWritesNothing : Obligations.ScaleAtOneWritesNothing := by
  refine ⟨by decide, fun s hfg hscale => ?_⟩
  rw [exec_bseScale_enabled hfg, State.scaled_identity (Board.scaleFn_eq_identity_iff.mpr hscale)]

/-- Settles O24, for either of the spaces that XSRC names. -/
theorem flushCopiesSourceToMemory : Obligations.FlushCopiesSourceToMemory := by
  refine ⟨by decide, fun s hfg => ?_⟩
  rw [exec_bseFlush_enabled hfg]
  exact ⟨fun hscale => by rw [State.flushed_identity (Board.scaleFn_eq_identity_iff.mpr hscale)],
    fun hscale => by rw [State.flushed_scratch (mt Board.scaleFn_eq_identity_iff.mp hscale)]⟩

/-- Settles O25. -/
theorem startTriggersTransfer : Obligations.StartTriggersTransfer :=
  ⟨by decide, fun _ hfg => ⟨exec_bseStart_free hfg, exec_bseStart_busy hfg⟩⟩

/-- Settles O26, by the branches of the wait's evaluation. -/
theorem blitWaitIsBounded : Obligations.BlitWaitIsBounded := by
  refine ⟨by decide, fun s hfg => ?_⟩
  rw [exec_bseWait_enabled hfg, State.evalWait_bseWait]
  refine ⟨fun hbusy => ?_, fun _ hdone => ?_, fun hbusy hdone hlate => ?_, fun hbusy hdone hnow => ?_⟩
  · rw [if_pos (.inl hbusy), ← hbusy, ← hfg.2]
  · rw [if_pos (.inr hdone), ← hfg.2]
  · rw [if_neg (by simp [hbusy, hdone]), if_pos hlate]
  · rw [if_neg (by simp [hbusy, hdone]), if_neg hnow.not_gt]

/-- Settles O28. -/
theorem palbuildPacksGammaCorrectedPalette : Obligations.PalbuildPacksGammaCorrectedPalette := by
  refine ⟨by decide, fun s hfg => ⟨_, exec_bsePalbuild_enabled hfg, fun i hi => ?_, fun i => s.read_paletteBuilt_above,
    rfl, rfl, fun hflight => if_pos hflight, fun hidle => if_neg hidle, rfl⟩⟩
  exact ⟨_, s.read_paletteBuilt hi, fun c => State.builtEntry_of_read⟩

/-- Settles O29. -/
theorem palflushAndPalloadPrepareLoad : Obligations.PalflushAndPalloadPrepareLoad :=
  ⟨by decide, fun _ hfg => ⟨exec_bsePalflush_enabled hfg, fun hpal hbse => exec_bsePalload_free hfg hbse hpal,
    fun hbusy => exec_bsePalload_busy hfg hbusy.symm⟩⟩

/-- Settles O30, by the branches of the wait's evaluation. -/
theorem paletteWaitIsBounded : Obligations.PaletteWaitIsBounded := by
  refine ⟨by decide, fun s hfg => ?_⟩
  rw [exec_bsePalwait_enabled hfg, State.evalWait_palWait]
  refine ⟨fun hbusy => ?_, fun _ hdone => ?_, fun hbusy hdone hfailed => ?_, fun hbusy hdone herr hnow => ?_⟩
  · rw [if_pos (.inl hbusy), ← hbusy, ← hfg.2]
  · rw [if_pos (.inr hdone), ← hfg.2]
  · rw [if_neg (by simp [hbusy, hdone]), if_pos hfailed]
  · rw [if_neg (by simp [hbusy, hdone]), if_neg (not_or.mpr ⟨by simp [herr], hnow.not_gt⟩)]

/-- Settles O31. -/
theorem clutLoadCompletesOrFails : Obligations.ClutLoadCompletesOrFails := by
  refine ⟨by decide, fun s => ⟨fun hpending => ⟨?_, ?_⟩, fun hidle => ⟨?_, ?_⟩⟩⟩
  · exact ⟨s.clutLoaded, exec_bsePaldone_pending hpending, fun htaint _ _ => State.clutLoaded_entry htaint, rfl, rfl,
      s.clutLoaded_frame⟩
  · exact ⟨s.loadFailed, exec_bsePalerr_pending hpending, rfl, rfl, s.loadFailed_frame⟩
  · exact if_neg hidle
  · exact if_neg hidle

end

/-! PROOFS of the family 42_kdb_key_debouncer: the ring as a list (R181, R182), the two phases of KDB.POLL (R184), one
key on a silent line (R186). -/

section

namespace Sys2Proof

/-- The number that two words put together spell. -/
theorem toNat_append_eq_add {m n : Nat} (x : BitVec m) (y : BitVec n) :
    (x ++ y).toNat = x.toNat * 2 ^ n + y.toNat := by
  rw [BitVec.toNat_append, ← Nat.shiftLeft_add_eq_or_of_lt y.isLt, Nat.shiftLeft_eq]

/-- R94: the word of KDB.RX as a sum. -/
theorem encode_kdbRx (b : Byte) : encode (.kdbRx b) = 0x3000 + b.setWidth 16 := by
  apply BitVec.eq_of_toNat_eq
  have hword : (encode (.kdbRx b)).toNat = 0x3000 + b.toNat := toNat_append_eq_add _ b
  rw [hword, BitVec.toNat_add, BitVec.toNat_setWidth]
  simp only [BitVec.reduceToNat]
  omega

end Sys2Proof

namespace Sys2Proof.Machine

/-! ## The ring as a list (R37, R181, R182) -/

theorem State.ring_eq_map_ringAt (s : State) : s.ring = (List.range s.ringCount).map s.ringAt := rfl

theorem State.length_ring (s : State) : s.ring.length = s.ringCount := by simp [State.ring]

theorem State.getElem_ring (s : State) {j : Nat} (hj : j < s.ring.length) : s.ring[j] = s.ringAt j := by
  simp [State.ring_eq_map_ringAt]

theorem State.ringAt_poppedTimes (s : State) (j i : Nat) : (s.poppedTimes j).ringAt i = s.ringAt (j + i) := by
  simp [State.poppedTimes, State.ringAt, State.ringByte, Nat.add_assoc]

/-- R182: pops take the oldest bytes off the ring. -/
theorem State.ring_poppedTimes (s : State) (j : Nat) : (s.poppedTimes j).ring = s.ring.drop j := by
  refine List.ext_getElem ?_ fun i _ _ => ?_
  · simp [State.length_ring, State.poppedTimes]
  · rw [List.getElem_drop, State.getElem_ring, State.getElem_ring, State.ringAt_poppedTimes]

/-- R181, where the ring has a free place. -/
theorem State.pushByte_of_lt {s : State} (hfree : s.ringCount < s.board.ringCap) (b : Byte) :
    s.pushByte b = { s with
      ringBuf := s.ringBuf.set ((s.ringHead + s.ringCount) % s.board.ringCap) b
      ringCount := s.ringCount + 1 } := if_pos hfree

/-- R181, where the ring is full. -/
theorem State.pushByte_of_full {s : State} (hfull : s.board.ringCap ≤ s.ringCount) (b : Byte) : s.pushByte b = s :=
  if_neg hfull.not_gt

/-- R183: the push, and the re-evaluation of a held wait. -/
theorem exec_kdbRx (b : Byte) (s : State) : exec (.kdbRx b) s = .next (s.pushByte b).reevaluate := rfl

/-- The places of two bytes of the ring differ. -/
theorem ringSlot_ne {head cap i j : Nat} (hij : i < j) (hj : j < cap) : (head + j) % cap ≠ (head + i) % cap := by
  intro h
  have hmod : j % cap = i % cap := Nat.ModEq.add_left_cancel' head h
  rw [Nat.mod_eq_of_lt hj, Nat.mod_eq_of_lt (hij.trans hj)] at hmod
  omega

/-- R181: the new byte is the last of the ring, and the others are as before. -/
theorem State.ring_pushByte {s : State} (hfree : s.ringCount < s.board.ringCap) (hbounds : s.RingInBounds) (b : Byte) :
    (s.pushByte b).ring = s.ring ++ [b] := by
  obtain ⟨hlength, -, -⟩ := hbounds
  have hlast : (s.pushByte b).ringAt s.ringCount = b := by
    have hslot : (s.ringHead + s.ringCount) % s.board.ringCap < s.board.ringCap := Nat.mod_lt _ (by omega)
    simp [State.ringAt, State.ringByte, State.pushByte_of_lt hfree, hlength, hslot]
  have hold : ∀ i < s.ringCount, (s.pushByte b).ringAt i = s.ringAt i := fun i hi => by
    simp [State.ringAt, State.ringByte, State.pushByte_of_lt hfree, List.getElem?_set_ne (ringSlot_ne hi hfree)]
  have hcount : (s.pushByte b).ringCount = s.ringCount + 1 := by rw [State.pushByte_of_lt hfree]
  rw [State.ring_eq_map_ringAt, hcount, List.range_succ, List.map_append, List.map_singleton, hlast,
    State.ring_eq_map_ringAt]
  exact congrArg (· ++ [b]) (List.map_congr_left fun i hi => hold i (List.mem_range.mp hi))

/-! ## Phase 1 of KDB.POLL (R184) -/

/-- The ring has a mapped byte behind unmapped ones: phase 1 pops up to it. -/
theorem State.drain_of_mapped {s : State} {pre post : List Byte} {b k : Byte} (hbounds : s.RingInBounds)
    (hring : s.ring = pre ++ b :: post) (hpre : ∀ c ∈ pre, s.board.keyOf c = none) (hb : s.board.keyOf b = some k) :
    State.drain s.ringCount s = (some k, s.poppedTimes (pre.length + 1)) := by
  obtain ⟨-, hhead, -⟩ := hbounds
  have hlt : pre.length < s.ringCount := by rw [← s.length_ring, hring]; simp
  have hmapped : s.ringAt pre.length = b := by
    rw [← s.getElem_ring (by rwa [s.length_ring])]
    simp [hring]
  have hunmapped : ∀ i < pre.length, s.board.keyOf (s.ringAt i) = none := fun i hi => by
    rw [← s.getElem_ring (by rw [s.length_ring]; omega)]
    exact hpre _ (by simp [hring, List.getElem_append_left hi])
  rcases State.drain_spec s.ringCount s hhead with ⟨j, k', hj, hbefore, hk', e⟩ | ⟨hnone, -⟩
  · rcases lt_trichotomy j pre.length with hlt' | rfl | hgt
    · simp [hunmapped j hlt'] at hk'
    · rw [hmapped, hb] at hk'
      rw [e, hk']
    · simpa [hmapped, hb] using hbefore _ hgt
  · simpa [hmapped, hb] using hnone _ hlt

/-- The ring has no mapped byte: phase 1 pops them all. -/
theorem State.drain_of_unmapped {s : State} (hbounds : s.RingInBounds)
    (hring : ∀ c ∈ s.ring, s.board.keyOf c = none) :
    State.drain s.ringCount s = (none, s.poppedTimes s.ringCount) := by
  obtain ⟨-, hhead, -⟩ := hbounds
  rcases State.drain_spec s.ringCount s hhead with ⟨j, k, hj, -, hk, -⟩ | ⟨-, e⟩
  · have hmem : s.ringAt j ∈ s.ring := List.mem_map_of_mem (List.mem_range.mpr hj)
    simp [hring _ hmem] at hk
  · exact e

/-! ## Phase 2 of KDB.POLL (R184) -/

theorem State.keyExpired_iff (s : State) (k : Byte) :
    s.keyExpired k = true
      ↔ (s.key k).pressed = true ∧ s.board.holdWindowMs < (s.now - (s.key k).lastActiveMs).toNat := by
  simp [State.keyExpired, expired]

/-- The scan meets every key code. -/
theorem mem_keyCodes (k : Byte) : k ∈ keyCodes :=
  List.mem_map.mpr ⟨k.toNat, List.mem_range.mpr k.isLt, by simp⟩

/-- The scan finds the lowest of the key codes it looks for. -/
theorem keyCodes_find?_lowest {p : Byte → Bool} {k : Byte} (hk : p k = true)
    (hlow : ∀ j : Byte, j.toNat < k.toNat → ¬ p j = true) : keyCodes.find? p = some k := by
  have hfind : (List.range 256).find? (p ∘ BitVec.ofNat 8) = some k.toNat := by
    refine List.find?_range_eq_some.mpr ⟨by simpa using hk, List.mem_range.mpr k.isLt, fun j hj => ?_⟩
    have hj' : (BitVec.ofNat 8 j).toNat = j := Nat.mod_eq_of_lt (hj.trans k.isLt)
    simpa using hlow _ (by rwa [hj'])
  rw [keyCodes, List.find?_map, hfind]
  simp

/-! ## What KDB.POLL answers (R184) -/

/-- R93: the response word of a key event. -/
theorem toNat_keyEvent (pressed : Bool) (k : Byte) :
    (keyEvent pressed k).toNat = (if pressed = true then 0x300 else 0x200) + k.toNat := by
  rw [keyEvent, toNat_append_eq_add]
  cases pressed <;> rfl

/-- The state after a call that pops `j` bytes and reports the key `k`, whose entry becomes `e`. -/
def State.reported (s : State) (j : Nat) (k : Byte) (e : KeyEntry) : State :=
  { (s.poppedTimes j).setKey k e with rsp := keyEvent e.pressed k }

/-- What a report leaves, of the registers that a call reads. -/
@[simp] theorem State.reported_fields (s : State) (j : Nat) (k : Byte) (e : KeyEntry) :
    (s.reported j k e).board = s.board ∧ (s.reported j k e).now = s.now := by
  simp [State.reported, State.poppedTimes]

theorem State.reported_ring (s : State) (j : Nat) (k : Byte) (e : KeyEntry) :
    (s.reported j k e).ring = s.ring.drop j := s.ring_poppedTimes j

theorem State.reported_key (s : State) (j : Nat) (k : Byte) (e : KeyEntry) : (s.reported j k e).key k = e :=
  State.setKey_key _ k e

theorem State.reported_key_other (s : State) (j : Nat) {k i : Byte} (h : i ≠ k) (e : KeyEntry) :
    (s.reported j k e).key i = s.key i := State.setKey_key_other _ h e

theorem State.reported_rsp (s : State) (j : Nat) (k : Byte) (e : KeyEntry) :
    (s.reported j k e).rsp = keyEvent e.pressed k := rfl

/-- A key-down. -/
theorem State.reported_rsp_down (s : State) (j : Nat) (k : Byte) (ms : Word32) :
    (s.reported j k ⟨true, ms⟩).rsp.toNat = 0x300 + k.toNat := by
  rw [State.reported_rsp, toNat_keyEvent, if_pos rfl]

/-- A key-up. -/
theorem State.reported_rsp_up (s : State) (j : Nat) (k : Byte) (ms : Word32) :
    (s.reported j k ⟨false, ms⟩).rsp.toNat = 0x200 + k.toNat := by
  rw [State.reported_rsp, toNat_keyEvent, if_neg Bool.false_ne_true]

theorem State.reported_frame (s : State) (j : Nat) (k : Byte) (e : KeyEntry) :
    { s.reported j k e with ringHead := s.ringHead, ringCount := s.ringCount, keytab := s.keytab, rsp := s.rsp }
      = s := by
  simp only [State.reported, State.setKey, State.poppedTimes]

/-- The state after a call that drops the ring and reports no key. -/
def State.noneReported (s : State) : State := { s.poppedTimes s.ringCount with rsp := 0 }

theorem State.noneReported_ring (s : State) : s.noneReported.ring = [] := by
  refine (s.ring_poppedTimes s.ringCount).trans ?_
  rw [List.drop_eq_nil_iff, s.length_ring]

theorem State.noneReported_key (s : State) (j : Byte) : s.noneReported.key j = s.key j := by
  simp only [State.key, State.noneReported, State.poppedTimes]

/-- The clock and the key table stay, so the same keys have expired. -/
theorem State.noneReported_keyExpired (s : State) (j : Byte) : s.noneReported.keyExpired j = s.keyExpired j := by
  simp only [State.keyExpired, State.key, State.noneReported, State.poppedTimes]

theorem State.noneReported_rsp (s : State) : s.noneReported.rsp = 0 := rfl

theorem State.noneReported_frame (s : State) :
    { s.noneReported with ringHead := s.ringHead, ringCount := s.ringCount, rsp := s.rsp } = s := by
  simp only [State.noneReported, State.poppedTimes]

/-- R184, phase 1: the first mapped byte in the ring is a key-down. -/
theorem exec_kdbPoll_mapped {s : State} {pre post : List Byte} {b k : Byte} (hfg : s.FgEnabled)
    (hbounds : s.RingInBounds) (hring : s.ring = pre ++ b :: post) (hpre : ∀ c ∈ pre, s.board.keyOf c = none)
    (hb : s.board.keyOf b = some k) :
    exec .kdbPoll s = .next (s.reported (pre.length + 1) k ⟨true, s.now⟩) := by
  refine (withFg_enabled hfg _).trans ?_
  rw [State.drain_of_mapped hbounds hring hpre hb]
  rfl

/-- R184, phase 2: the expired key of the lowest code is a key-up. -/
theorem exec_kdbPoll_expired {s : State} {k : Byte} (hfg : s.FgEnabled) (hbounds : s.RingInBounds)
    (hring : ∀ c ∈ s.ring, s.board.keyOf c = none) (hk : s.keyExpired k = true)
    (hlow : ∀ j : Byte, j.toNat < k.toNat → ¬ s.keyExpired j = true) :
    exec .kdbPoll s = .next (s.reported s.ringCount k ⟨false, (s.key k).lastActiveMs⟩) := by
  have hfind : keyCodes.find? (s.poppedTimes s.ringCount).keyExpired = some k := keyCodes_find?_lowest hk hlow
  refine (withFg_enabled hfg _).trans ?_
  rw [State.drain_of_unmapped hbounds hring]
  simp only [State.expireKey, hfind]
  rfl

/-- R184, phase 2 with no key expired. -/
theorem exec_kdbPoll_none {s : State} (hfg : s.FgEnabled) (hbounds : s.RingInBounds)
    (hring : ∀ c ∈ s.ring, s.board.keyOf c = none) (hnone : ∀ j, ¬ s.keyExpired j = true) :
    exec .kdbPoll s = .next s.noneReported := by
  have hfind : keyCodes.find? (s.poppedTimes s.ringCount).keyExpired = none :=
    List.find?_eq_none.mpr fun j _ => hnone j
  refine (withFg_enabled hfg _).trans ?_
  rw [State.drain_of_unmapped hbounds hring]
  simp only [State.expireKey, hfind]
  rfl

/-! ## One key on a silent line (R186) -/

/-- FG may poll, and the ring is empty. -/
structure State.LineSilent (s : State) : Prop where
  fgEnabled : s.FgEnabled
  ringInBounds : s.RingInBounds
  ringEmpty : s.ringCount = 0

/-- An empty ring has no mapped byte. -/
theorem State.unmapped_of_ringEmpty {s : State} (h : s.ringCount = 0) : ∀ c ∈ s.ring, s.board.keyOf c = none := by
  simp [State.ring, h]

theorem State.ringInBounds_poppedTimes {s : State} (h : s.RingInBounds) (j : Nat) : (s.poppedTimes j).RingInBounds := by
  obtain ⟨hlength, hhead, hcount⟩ := h
  exact ⟨hlength, Nat.mod_lt _ (Nat.zero_lt_of_lt hhead), (Nat.sub_le _ _).trans hcount⟩

/-- A call that pops the whole ring leaves the line silent. -/
theorem State.lineSilent_reported {s : State} (hfg : s.FgEnabled) (hbounds : s.RingInBounds) {j : Nat}
    (hj : s.ringCount ≤ j) (k : Byte) (e : KeyEntry) : (s.reported j k e).LineSilent :=
  ⟨hfg, State.ringInBounds_poppedTimes hbounds j, Nat.sub_eq_zero_of_le hj⟩

theorem State.LineSilent.noneReported {s : State} (h : s.LineSilent) : s.noneReported.LineSilent :=
  ⟨h.fgEnabled, State.ringInBounds_poppedTimes h.ringInBounds _, Nat.sub_self _⟩

theorem State.LineSilent.ticked {s : State} (h : s.LineSilent) (n : Byte) : (s.ticked n).LineSilent :=
  ⟨h.fgEnabled, h.ringInBounds, h.ringEmpty⟩

theorem State.LineSilent.exec_kdbPoll_none {s : State} (h : s.LineSilent) (hnone : ∀ j, ¬ s.keyExpired j = true) :
    exec .kdbPoll s = .next s.noneReported :=
  Machine.exec_kdbPoll_none h.fgEnabled h.ringInBounds (State.unmapped_of_ringEmpty h.ringEmpty) hnone

theorem State.ticked_key (s : State) (n j : Byte) : (s.ticked n).key j = s.key j := rfl

/-- A call made `n` milliseconds later. -/
theorem State.LineSilent.execAll_tick_poll {s t : State} {n : Byte} (h : s.LineSilent)
    (hpoll : exec .kdbPoll (s.ticked n) = .next t) : execAll [.envClk n, .kdbPoll] s = .next t := by
  have hclk : exec (.envClk n) s = .next (s.ticked n) := by
    rw [exec_envClk, State.reevaluate_none (h.ticked n).fgEnabled.2]
  rw [execAll_cons hclk, execAll_cons hpoll, execAll]

/-- On a silent line the key `k`, and no other, has been pressed just now. -/
structure State.OnlyKeyDown (s : State) (k : Byte) : Prop where
  lineSilent : s.LineSilent
  pressedNow : s.key k = ⟨true, s.now⟩
  othersUp : ∀ j, j ≠ k → (s.key j).pressed = false

/-- R184 (d), R12: `n` milliseconds later the key has expired exactly if `n` exceeds the hold window, and no other. -/
theorem State.OnlyKeyDown.keyExpired_iff {s : State} {k : Byte} (h : s.OnlyKeyDown k) (n j : Byte) :
    (s.ticked n).keyExpired j = true ↔ j = k ∧ s.board.holdWindowMs < n.toNat := by
  rw [State.keyExpired_iff, s.ticked_key, s.ticked_now, (s.ticked_fields n).1]
  by_cases hj : j = k
  · subst hj
    rw [h.pressedNow, toNat_elapsed]
    simp
  · simp [hj, h.othersUp j hj]

/-- R186 within the hold window: no event at the call, nor at one more. -/
theorem State.OnlyKeyDown.polls_within {s : State} {k n : Byte} (h : s.OnlyKeyDown k)
    (hn : n.toNat ≤ s.board.holdWindowMs) :
    execAll [.envClk n, .kdbPoll] s = .next (s.ticked n).noneReported
      ∧ exec .kdbPoll (s.ticked n).noneReported = .next (s.ticked n).noneReported.noneReported := by
  have hsilent := h.lineSilent.ticked n
  have hnone : ∀ j, ¬ (s.ticked n).keyExpired j = true := fun j hj =>
    hn.not_gt ((h.keyExpired_iff n j).mp hj).2
  exact ⟨h.lineSilent.execAll_tick_poll (hsilent.exec_kdbPoll_none hnone),
    hsilent.noneReported.exec_kdbPoll_none fun j => by rw [State.noneReported_keyExpired]; exact hnone j⟩

/-- The state after the call that releases the key `k`, `n` milliseconds later. -/
def State.keyReleased (s : State) (n k : Byte) : State := (s.ticked n).reported s.ringCount k ⟨false, s.now⟩

/-- R186 past the hold window: one key-up, and then no event. -/
theorem State.OnlyKeyDown.polls_past {s : State} {k n : Byte} (h : s.OnlyKeyDown k)
    (hn : s.board.holdWindowMs < n.toNat) :
    execAll [.envClk n, .kdbPoll] s = .next (s.keyReleased n k)
      ∧ exec .kdbPoll (s.keyReleased n k) = .next (s.keyReleased n k).noneReported := by
  have hsilent := h.lineSilent.ticked n
  have hts : ((s.ticked n).key k).lastActiveMs = s.now := by rw [State.ticked_key, h.pressedNow]
  have hlow : ∀ j : Byte, j.toNat < k.toNat → ¬ (s.ticked n).keyExpired j = true := fun j hlt hj =>
    hlt.ne (congrArg BitVec.toNat ((h.keyExpired_iff n j).mp hj).1)
  have hpoll : exec .kdbPoll (s.ticked n) = .next (s.keyReleased n k) := by
    rw [exec_kdbPoll_expired hsilent.fgEnabled hsilent.ringInBounds (State.unmapped_of_ringEmpty hsilent.ringEmpty)
      ((h.keyExpired_iff n k).mpr ⟨rfl, hn⟩) hlow, hts]
    rfl
  have hup : ∀ j, ((s.keyReleased n k).key j).pressed = false := fun j => by
    by_cases hj : j = k
    · subst hj
      rw [State.keyReleased, State.reported_key]
    · rw [State.keyReleased, State.reported_key_other _ _ hj]
      exact h.othersUp j hj
  have hreleased : (s.keyReleased n k).LineSilent :=
    State.lineSilent_reported hsilent.fgEnabled hsilent.ringInBounds le_rfl k _
  exact ⟨h.lineSilent.execAll_tick_poll hpoll, hreleased.exec_kdbPoll_none fun j => by simp [State.keyExpired, hup j]⟩

/-- The state after one byte for the key `k`, and the call that pops it. -/
def State.keyTyped (s : State) (b k : Byte) : State := (s.pushByte b).reported 1 k ⟨true, s.now⟩

theorem State.keyTyped_board (s : State) (b k : Byte) : (s.keyTyped b k).board = s.board := by
  simp [State.keyTyped]

section

variable {s : State} (h : s.LineSilent)

include h

theorem State.LineSilent.ringCount_lt : s.ringCount < s.board.ringCap := by
  obtain ⟨-, ⟨-, hhead, -⟩, hempty⟩ := h
  omega

/-- R183, R184: the call pops the byte, which is alone in the ring. -/
theorem State.LineSilent.execAll_keyTyped {b k : Byte} (hb : s.board.keyOf b = some k) :
    execAll [.kdbRx b, .kdbPoll] s = .next (s.keyTyped b k) := by
  have hring : (s.pushByte b).ring = [] ++ b :: [] := by
    rw [State.ring_pushByte h.ringCount_lt h.ringInBounds, State.ring, h.ringEmpty]
    rfl
  have hnow : (s.pushByte b).now = s.now := by simp
  have hrx : exec (.kdbRx b) s = .next (s.pushByte b) := by
    rw [exec_kdbRx, State.reevaluate_none (by simp [h.fgEnabled.2])]
  have hpoll := exec_kdbPoll_mapped (s := s.pushByte b) (by simpa [State.FgEnabled] using h.fgEnabled)
    ((State.Keeps.pushByte s b).ringInBounds h.ringInBounds) hring (by simp) (by simpa using hb)
  rw [hnow] at hpoll
  rw [execAll_cons hrx, execAll_cons hpoll]
  rfl

/-- With no key pressed before, the byte's key is then the only one. -/
theorem State.LineSilent.onlyKeyDown_keyTyped (hup : ∀ j, (s.key j).pressed = false) (b k : Byte) :
    (s.keyTyped b k).OnlyKeyDown k where
  lineSilent := State.lineSilent_reported (by simpa [State.FgEnabled] using h.fgEnabled)
    ((State.Keeps.pushByte s b).ringInBounds h.ringInBounds)
    (by simp [State.pushByte_of_lt h.ringCount_lt, h.ringEmpty]) k _
  pressedNow := by
    rw [State.keyTyped, State.reported_key]
    simp
  othersUp j hj := by
    have hkey : (s.pushByte b).key j = s.key j := by simp [State.key]
    rw [State.keyTyped, State.reported_key_other _ _ hj, hkey, hup]

end

end Sys2Proof.Machine

end

/-! The obligations of the family. -/

section

open Sys2Proof Sys2Proof.Machine

/-- Settles O35, by the push into the ring with a free place and into the full one. -/
theorem receivedByteIsQueuedOrDropped : Obligations.ReceivedByteIsQueuedOrDropped := by
  refine ⟨fun b => ?_, fun b s => ⟨fun hfree hbounds => ?_, fun hfull => ?_⟩⟩
  · rw [← encode_kdbRx]
    exact decode_encode rfl
  · refine ⟨s.pushByte b, exec_kdbRx b s, State.ring_pushByte hfree hbounds b, ?_, ?_⟩ <;>
      rw [State.pushByte_of_lt hfree]
  · rw [exec_kdbRx, State.pushByte_of_full hfull]

/-- Settles O36: phase 1 pops up to the first mapped byte. -/
theorem pollReportsFirstMappedByte : Obligations.PollReportsFirstMappedByte := by
  intro s pre post b k hfg hbounds hring hpre hb
  refine ⟨_, exec_kdbPoll_mapped hfg hbounds hring hpre hb, ?_, State.reported_key .., fun j hj =>
    State.reported_key_other _ _ hj _, State.reported_rsp_down .., s.reported_frame _ k _⟩
  rw [State.reported_ring, hring, List.drop_length_add_append]
  rfl

/-- Settles O37: phase 1 drops the ring, and phase 2 scans the key codes from the lowest. -/
theorem pollReleasesFirstExpiredKey : Obligations.PollReleasesFirstExpiredKey := by
  intro s hfg hbounds hring
  simp only [← State.keyExpired_iff]
  refine ⟨fun k hpressed hlate hlow => ?_, fun hnone => ?_⟩
  · have hk := (s.keyExpired_iff k).mpr ⟨hpressed, hlate⟩
    refine ⟨_, exec_kdbPoll_expired hfg hbounds hring hk hlow, ?_, State.reported_key .., fun j hj =>
      State.reported_key_other _ _ hj _, State.reported_rsp_up .., s.reported_frame _ k _⟩
    rw [State.reported_ring, ← s.length_ring, List.drop_length]
  · exact ⟨_, exec_kdbPoll_none hfg hbounds hring hnone, s.noneReported_ring, s.noneReported_rsp, s.noneReported_frame⟩

/-- Settles O38: after the byte its key alone is pressed, so it alone can expire. -/
theorem oneKeyUpAfterHoldWindow : Obligations.OneKeyUpAfterHoldWindow := by
  intro s b k n hfg hbounds hempty hb hup
  have hsilent : s.LineSilent := ⟨hfg, hbounds, hempty⟩
  have hdown := hsilent.onlyKeyDown_keyTyped hup b k
  have hwindow : (s.keyTyped b k).board.holdWindowMs = s.board.holdWindowMs := by rw [s.keyTyped_board]
  rcases le_or_gt n.toNat s.board.holdWindowMs with hn | hn
  · obtain ⟨hpoll, hnext⟩ := hdown.polls_within (hwindow ▸ hn)
    have hheld : (((s.keyTyped b k).ticked n).noneReported.key k).pressed = true := by
      rw [State.noneReported_key, State.ticked_key, hdown.pressedNow]
    exact ⟨_, _, _, hsilent.execAll_keyTyped hb, State.reported_rsp_down .., hpoll,
      fun _ => ⟨State.noneReported_rsp _, hheld⟩, fun hpast => absurd hpast hn.not_gt, hnext, State.noneReported_rsp _⟩
  · obtain ⟨hpoll, hnext⟩ := hdown.polls_past (hwindow ▸ hn)
    have hup : (((s.keyTyped b k).keyReleased n k).key k).pressed = false := by
      rw [State.keyReleased, State.reported_key]
    exact ⟨_, _, _, hsilent.execAll_keyTyped hb, State.reported_rsp_down .., hpoll,
      fun hwithin => absurd hn hwithin.not_gt, fun _ => ⟨State.reported_rsp_up .., hup⟩, hnext, State.noneReported_rsp _⟩

/-- Settles O39: R10 admits only a caseless key map. -/
theorem keymapIgnoresCase : Obligations.KeymapIgnoresCase := fun _ _ hwf hletter =>
  Board.keyOf_xor_of_caseless (Board.admitted_of_wf hwf).keymapCaseless hletter

end

/-! PROOFS of the family 43_sys_env: the stores of the renderer (R211, R212, R214), the fatal entry (R204), SYS.CHECK
(R201), the other SYS operations (R205 to R209), the clock and reset (R210, R213). -/

section

namespace Sys2Proof

/-! ## Words with an operand (R90, R94) -/

/-- R90: the argument byte is added to the word of the row. -/
theorem opWord_eq_add (u o : BitVec 4) (a : Byte) : opWord u o a = opWord u o 0 + a.setWidth 16 := by
  apply BitVec.eq_of_toNat_eq
  have ha := a.isLt
  have hu := u.isLt
  have ho := o.isLt
  simp only [BitVec.toNat_add, BitVec.toNat_setWidth, opWord_toNat, BitVec.reduceToNat]
  omega

/-- R94: the word of a row, plus an argument, decodes to the operation with this argument. -/
theorem decode_add_arg {i : Instr} {u o : BitVec 4} {a : Byte} (hwf : i.wf = true) (hword : encode i = opWord u o a) :
    decode (opWord u o 0 + a.setWidth 16) = .ok i := by
  rw [← opWord_eq_add, ← hword, decode_encode hwf]

end Sys2Proof

namespace Sys2Proof.Machine

/-! ## The steps of the renderer (R211, R212, R214) -/

/-- With no wait held there is none to evaluate. -/
theorem thenReevaluate_awake {s : State} (h : s.fgHold = .none) : thenReevaluate s = .next s := by
  rw [thenReevaluate, State.reevaluate_none h]

/-- R211: the renderer runs only while no wait is held, so there is none to evaluate after it. -/
theorem withRenderer_thenReevaluate {s t : State} (h : s.RendererEnabled) (ht : t.fgHold = s.fgHold) :
    withRenderer s (thenReevaluate t) = .next t := by
  rw [withRenderer_enabled h, thenReevaluate_awake (ht.trans h.2)]

/-- No store of a burst of one is outside, if that one is inside. -/
theorem firstOutside_singleton {α : Type} {size i : Nat} (h : i < size) (v : α) : firstOutside size [(i, v)] = none := by
  simp [firstOutside, h]

/-- R211, where the renderer runs. -/
theorem exec_envEtick_enabled {s : State} (h : s.RendererEnabled) :
    exec .envEtick s = .next { s with engineProgressCounter := bumpCounter s.board s.engineProgressCounter } :=
  withRenderer_thenReevaluate h rfl

theorem exec_envEtick_refused {s : State} (h : ¬ s.RendererEnabled) :
    exec .envEtick s = .refused .rendererNotEnabled := withRenderer_refused h _

theorem exec_envSrcfill_refused {s : State} (h : ¬ s.RendererEnabled) (v : Byte) :
    exec (.envSrcfill v) s = .refused .rendererNotEnabled := withRenderer_refused h _

/-! ### Stores into a framebuffer and the palette -/

/-- Replacing a framebuffer changes no other field. -/
theorem State.setFb_frame (s : State) (k : FbIndex) (m : Memory Pixel) :
    { s.setFb k m with fb0 := s.fb0, fb1 := s.fb1 } = s := by
  unfold State.setFb
  split <;> rfl

/-- R214: one store into a framebuffer. -/
theorem renderPixels_singleton {s : State} {i : Nat} (h : s.RendererEnabled) (hi : i < s.board.fbSize) (k : FbIndex)
    (p : Pixel) : renderPixels k [(i, p)] s = .next (s.setFb k ((s.fb k).write i (s.board.fit p))) := by
  rw [renderPixels, firstOutside_singleton hi]
  exact withRenderer_thenReevaluate h (by simp)

/-- R214: one entry of the palette. -/
theorem renderPalette_singleton {s : State} (h : s.RendererEnabled) (k : Byte) (c : Rgb) :
    renderPalette [(k, c)] s = .next { s with palIn := s.palIn.write k.toNat c } := withRenderer_thenReevaluate h rfl

/-! ### Stores into the source -/

/-- The state with another content of `SRC.cpu`, and the ghost effects of the store (R212). -/
def State.sourceStored (s : State) (m : Memory Byte) : State := State.storedSrc { s with srcCpu := m }

@[simp] theorem State.sourceStored_srcCpu (s : State) (m : Memory Byte) : (s.sourceStored m).srcCpu = m := by
  simp [State.sourceStored]

theorem State.sourceStored_frame (s : State) (m : Memory Byte) :
    { s.sourceStored m with srcCpu := s.srcCpu, srcClean := s.srcClean, bseTaint := s.bseTaint } = s := by
  unfold State.sourceStored State.storedSrc
  split <;> rfl

/-- R212: where the transfer reads SCRATCH, a store into SRC has no ghost effects. -/
theorem State.sourceStored_scratch {s : State} (hfn : s.board.scaleFn ≠ .identity) (m : Memory Byte) :
    (s.sourceStored m).srcClean = s.srcClean ∧ (s.sourceStored m).bseTaint = s.bseTaint := by
  unfold State.sourceStored State.storedSrc
  split
  · exact absurd ‹_› hfn
  all_goals exact ⟨rfl, rfl⟩

/-- R212: where the transfer reads SRC, a store into it leaves it unclean and taints the transfer in flight. -/
theorem State.sourceStored_identity {s : State} (hfn : s.board.scaleFn = .identity) (m : Memory Byte) :
    (s.sourceStored m).srcClean = false ∧ (s.TransferInFlight → (s.sourceStored m).bseTaint = true)
      ∧ (¬ s.TransferInFlight → (s.sourceStored m).bseTaint = s.bseTaint) := by
  have hstored : s.sourceStored m = State.storedXsrc { s with srcCpu := m } := by
    simp only [State.sourceStored, State.storedSrc, hfn]
  rw [hstored]
  exact ⟨rfl, fun hflight => if_pos hflight, fun hidle => if_neg hidle⟩

/-- R214: one store into `SRC.cpu`. -/
theorem renderSource_singleton {s : State} {i : Nat} (h : s.RendererEnabled) (hi : i < s.board.srcSize) (v : Byte) :
    renderSource [(i, v)] s = .next (s.sourceStored (s.srcCpu.write i v)) := by
  rw [renderSource, firstOutside_singleton hi]
  exact withRenderer_thenReevaluate h (by simp)

/-- R212, where the renderer runs. -/
theorem exec_envSrcfill_enabled {s : State} (h : s.RendererEnabled) (v : Byte) :
    exec (.envSrcfill v) s = .next (s.sourceStored (Memory.fill s.board.srcSize (fun _ => some v) s.srcCpu)) :=
  withRenderer_thenReevaluate h (by simp)

/-! ## The fatal entry (R204) -/

/-- R204, element for element: FB[FATAL_FB] holds the message. -/
theorem State.read_fatalEntry_fb {s : State} (c : Byte) (h : s.alreadyFailed = false) (i : Nat) :
    Memory.read ((s.fatalEntry c).fb s.board.fatalFb) i =
      if i < s.board.fbSize then some (s.board.messagePixel c i) else Memory.read (s.fb s.board.fatalFb) i := by
  rw [State.fatalEntry_fb c h, Memory.read_fill, Option.some_or]

/-- The fatal entry changes no other field. -/
theorem State.fatalEntry_frame (s : State) (c : Byte) :
    { s.fatalEntry c with
      alreadyFailed := s.alreadyFailed, sysState := s.sysState, fatalCause := s.fatalCause
      refreshIrqEnabled := s.refreshIrqEnabled, lcdAddr := s.lcdAddr, lcdOut := s.lcdOut
      visibleIndex := s.visibleIndex, fgHold := s.fgHold, rsp := s.rsp, fb0 := s.fb0, fb1 := s.fb1 } = s := by
  unfold State.fatalEntry State.setFb
  split
  · rfl
  · split <;> rfl

/-- R95, R231: the cause 0. -/
theorem exec_sysFatal_zero (s : State) : exec (.sysFatal 0) s = .refused (.illegalWord .causeZero) := by
  rw [exec, execSysFatal, if_pos rfl]

/-! ## SYS.CHECK (R201) -/

/-- R243: strictly later than the period. -/
theorem expired_iff {now t : Word32} {period : Nat} : expired now t period = true ↔ period < (now - t).toNat :=
  decide_eq_true_iff

theorem exec_sysCheck_enabled {s : State} (h : s.FgEnabled) : exec .sysCheck s = .next s.checkProgress.checkRefresh :=
  withFg_enabled h _

section

variable {s : State}

/-- R201: the renderer has moved. -/
theorem State.checkProgress_moved (h : s.engineProgressCounter ≠ s.lmProgSeen) :
    s.checkProgress = { s with lmProgSeen := s.engineProgressCounter, lmProgTs := s.now } := if_pos h

/-- R201: the renderer is stale, and the reset not requested yet. -/
theorem State.checkProgress_stale (h : s.engineProgressCounter = s.lmProgSeen)
    (hlate : s.board.progressTimeoutMs < (s.now - s.lmProgTs).toNat) (hpending : s.resetPending = false) :
    s.checkProgress = { s with resetPending := true, resetReq := s.resetReq + 1 } := by
  rw [State.checkProgress, if_neg (not_not_intro h), if_pos ⟨expired_iff.mpr hlate, hpending⟩]

/-- R201: the renderer still has time, or the reset is requested already. -/
theorem State.checkProgress_idle (h : s.engineProgressCounter = s.lmProgSeen)
    (hidle : (s.now - s.lmProgTs).toNat ≤ s.board.progressTimeoutMs ∨ s.resetPending = true) : s.checkProgress = s := by
  rw [State.checkProgress, if_neg (not_not_intro h), if_neg]
  rintro ⟨hlate, hfree⟩
  rcases hidle with hearly | hpending
  · exact hearly.not_gt (expired_iff.mp hlate)
  · cases hfree.symm.trans hpending

/-- The renderer check leaves what the display check reads. -/
theorem State.checkProgress_refreshFields (s : State) :
    s.checkProgress.refreshCounter = s.refreshCounter ∧ s.checkProgress.lmRefSeen = s.lmRefSeen
      ∧ s.checkProgress.lmRefTs = s.lmRefTs ∧ s.checkProgress.now = s.now := by
  unfold State.checkProgress
  split_ifs <;> (repeat' constructor)

/-- R201: the display has moved. -/
theorem State.checkRefresh_moved (h : s.refreshCounter ≠ s.lmRefSeen) :
    s.checkRefresh = { s with lmRefSeen := s.refreshCounter, lmRefTs := s.now, rsp := 0 } := if_pos h

/-- R201: the display is stale. -/
theorem State.checkRefresh_stale (h : s.refreshCounter = s.lmRefSeen)
    (hlate : s.board.refreshTimeoutMs < (s.now - s.lmRefTs).toNat) : s.checkRefresh = s.fatalEntry 3 := by
  rw [State.checkRefresh, if_neg (not_not_intro h), if_pos (expired_iff.mpr hlate)]

/-- R201: the display still has time. -/
theorem State.checkRefresh_idle (h : s.refreshCounter = s.lmRefSeen)
    (hearly : (s.now - s.lmRefTs).toNat ≤ s.board.refreshTimeoutMs) : s.checkRefresh = { s with rsp := 0 } := by
  rw [State.checkRefresh, if_neg (not_not_intro h), if_neg fun hlate => hearly.not_gt (expired_iff.mp hlate)]

end

/-! ## SYS.FLOOP, SYS.TELEM, SYS.INITFAIL (R205, R206, R209) -/

/-- R205, in `Failed`. -/
theorem exec_sysFloop_enabled {s : State} (h : s.FloopEnabled) :
    exec .sysFloop s = .next
      { s with serialOut := s.serialOut ++ [Config.msg s.fatalCause], indicator := !s.indicator, rsp := 0 } := if_pos h

/-- The state that SYS.TELEM leaves (R206). -/
def State.telemetrySent (s : State) : State :=
  { s.drew with
    serialOut := s.serialOut ++
      [telemetryLine (Config.anyNumber s.draws 0) (Config.anyNumber s.draws 1) (Config.anyNumber s.draws 2)]
    rsp := 0 }

theorem exec_sysTelem_enabled {s : State} (h : s.FgEnabled) : exec .sysTelem s = .next s.telemetrySent :=
  withFg_enabled h _

theorem exec_sysInitfail_enabled {s : State} (h : s.FgEnabled) :
    exec .sysInitfail s = .next { s with sysState := .halted } := withFg_enabled h _

/-! ## ENV.CLK and ENV.RESET (R210, R213) -/

/-- R46, R210: the clock counts modulo 2^32. -/
theorem State.ticked_now_toNat (s : State) (n : Byte) :
    (s.ticked n).now.toNat = (s.now.toNat + n.toNat) % 2 ^ 32 := by
  rw [State.ticked_now, BitVec.toNat_add, BitVec.toNat_setWidth_of_le (by decide)]

/-- R213: after reset no wait is held. -/
theorem exec_envReset (s : State) : exec .envReset s = .next (State.resetWith s.board s.trace s.draws) :=
  thenReevaluate_awake rfl

/-- R38, R271: after reset no key is pressed. -/
theorem State.resetWith_key (b : Board) (trace : List Input) (draw : Nat) (k : Byte) :
    (State.resetWith b trace draw).key k = ⟨false, 0⟩ := by
  simp [State.key, State.resetWith]

end Sys2Proof.Machine

end

/-! The obligations of the family. -/

section

open Sys2Proof Sys2Proof.Machine

/-- Settles O7, by the read of a memory after one store; a renderer that runs finds no wait held. -/
theorem rendererStoreWritesItsElement : Obligations.RendererStoreWritesItsElement := by
  refine ⟨fun s rest k i p hboard htrace hrun hi hwf => ?_, fun s rest i v hboard htrace hrun hi hwf => ?_,
    fun s rest k c hboard htrace hrun hwf => ?_⟩ <;>
    rw [step_eq_runInput hboard htrace] <;>
    replace hrun : State.RendererEnabled { s with trace := rest } := hrun
  · refine ⟨_, renderPixels_singleton hrun hi k p, ?_, fun j hj => ?_, fun m hm => State.setFb_fb_other _ hm _,
      State.setFb_frame ..⟩ <;> rw [State.setFb_fb]
    · exact Memory.read_write_same _ _ _ hwf
    · exact Memory.read_write_other _ _ hwf hj
  · refine ⟨_, renderSource_singleton hrun hi v, ?_, fun j hj => ?_,
      fun hfn => State.sourceStored_scratch (s := { s with trace := rest }) hfn _,
      fun hfn => State.sourceStored_identity (s := { s with trace := rest }) hfn _, State.sourceStored_frame ..⟩ <;>
      rw [State.sourceStored_srcCpu]
    · exact Memory.read_write_same _ _ _ hwf
    · exact Memory.read_write_other _ _ hwf hj
  · exact ⟨_, renderPalette_singleton hrun k c, Memory.read_write_same _ _ _ hwf,
      fun j hj => Memory.read_write_other _ _ hwf hj, rfl⟩

/-- Settles O41: the first entry writes its registers and the message; a latched one is a no-op. -/
theorem fatalEntryIsOneShot : Obligations.FatalEntryIsOneShot := by
  refine ⟨fun c _ => State.fatalEntry_latched c, fun c s hfirst => ?_,
    fun c hc => decode_add_arg (u := 4) (o := 1) (by simpa [Instr.wf] using hc) rfl,
    fun c s hc hrun hawake => exec_sysFatal_enabled hc ⟨hrun, hawake⟩,
    fun c s hc hoff => exec_sysFatal_refused hc fun ⟨hrun, hawake⟩ => hoff.elim hrun (· hawake), exec_sysFatal_zero⟩
  obtain ⟨hlatch, hstate, hcause, hirq, haddr, hout, hvisible, hhold, -⟩ := State.fatalEntry_first c hfirst
  refine ⟨hlatch, hstate, hcause, hirq, haddr, hout, hvisible, hhold, fun i hi => ?_, fun i hi => ?_,
    fun k hk => State.fatalEntry_fb_other c hk, s.fatalEntry_frame c⟩ <;> rw [State.read_fatalEntry_fb c hfirst]
  · exact if_pos hi
  · exact if_neg hi.not_gt

/-- Settles O40: the renderer check leaves what the display check reads. -/
theorem checkTestsBothHeartbeats : Obligations.CheckTestsBothHeartbeats := by
  refine ⟨by decide, fun s hfg => ⟨s.checkProgress, State.checkProgress_moved, State.checkProgress_stale,
    State.checkProgress_idle, ?_⟩⟩
  obtain ⟨hcounter, hseen, hts, hnow⟩ := s.checkProgress_refreshFields
  rw [exec_sysCheck_enabled hfg, ← s.checkProgress_board, ← hcounter, ← hseen, ← hts, ← hnow]
  exact ⟨fun h => congrArg _ (State.checkRefresh_moved h), fun h hlate => congrArg _ (State.checkRefresh_stale h hlate),
    fun h hearly => congrArg _ (State.checkRefresh_idle h hearly)⟩

/-- Settles O42, one operation after another. -/
theorem fatalLoopTelemetryAndHalt : Obligations.FatalLoopTelemetryAndHalt :=
  ⟨by decide, fun _ =>
    ⟨fun hfailed hawake => exec_sysFloop_enabled ⟨hfailed, hawake⟩, fun hstate => exec_sysFloop_refused (hstate ·.1),
      fun hfg => ⟨_, _, _, _, exec_sysTelem_enabled hfg, rfl, rfl, rfl⟩,
      fun hfg => ⟨_, exec_sysInitfail_enabled hfg, rfl, rfl⟩⟩⟩

/-- Settles O43, by the state with the clock advanced. -/
theorem clockAdvancesNow : Obligations.ClockAdvancesNow :=
  ⟨fun _ => decode_add_arg (u := 0) (o := 1) rfl rfl,
    fun n s => ⟨s.ticked n, exec_envClk n s, s.ticked_now_toNat n, rfl⟩⟩

/-- Settles O44, by the read of a memory after a bulk store; the transfer reads SRC at SCALE = 1. -/
theorem rendererTicksAndFillsSource : Obligations.RendererTicksAndFillsSource := by
  refine ⟨⟨by decide, fun v => decode_add_arg (u := 0) (o := 3) rfl rfl⟩, fun s =>
    ⟨fun hrun => ⟨exec_envEtick_enabled hrun, fun v => ?_⟩, fun hoff =>
      ⟨exec_envEtick_refused hoff, exec_envSrcfill_refused hoff⟩⟩⟩
  simp only [ne_eq, ← Board.scaleFn_eq_identity_iff]
  refine ⟨_, exec_envSrcfill_enabled hrun v, fun i hi => ?_, fun i hi => ?_, fun hfn => State.sourceStored_scratch hfn _,
    fun hfn => State.sourceStored_identity hfn _, State.sourceStored_frame ..⟩ <;>
    rw [State.sourceStored_srcCpu, Memory.read_fill]
  · exact if_pos hi
  · exact if_neg (Nat.not_lt.mpr hi)

/-- Settles O45: ENV.RESET answers the reset state, whose registers stand in its definition. -/
theorem resetRestoresEveryRegister : Obligations.ResetRestoresEveryRegister := by
  refine ⟨by decide, fun s => ⟨_, exec_envReset s, ?_⟩⟩
  simp only [State.resetWith_key]
  simp [State.resetWith]

end

/-! PROOFS of the family 60_exceptions: no operation faults (R230, R239), the handlers of the interrupt sources commute
(R233, R236). -/

section

namespace Sys2Proof.Machine

/-! ## No fault (R230, R239) -/

/-- The outcome is no fault. -/
def FaultFree (o : Outcome) : Prop := ∀ r, o ≠ .fault r

theorem faultFree_next (s : State) : FaultFree (.next s) := nofun

theorem faultFree_refused (r : Refusal) : FaultFree (.refused r) := nofun

theorem faultFree_ite {c : Prop} [Decidable c] {o o' : Outcome} (h : FaultFree o) (h' : FaultFree o') :
    FaultFree (if c then o else o') := by
  split
  · exact h
  · exact h'

theorem faultFree_withFg {s : State} {o : Outcome} (h : FaultFree o) : FaultFree (withFg s o) :=
  faultFree_ite h (faultFree_refused _)

/-- Every operation answers a next state or a refusal. -/
theorem exec_faultFree (i : Instr) (s : State) : FaultFree (exec i s) := by
  cases i with
  | envClk _ | envReset | fscRefresh | kdbRx _ => exact faultFree_next _
  | envEtick | envSrcfill _ | bseDone | bsePaldone | bsePalerr | sysFloop =>
    exact faultFree_ite (faultFree_next _) (faultFree_refused _)
  | fscBegin | fscSubmit | fscWait | fscSetmode _ | fscIrqctl _ | fscForcevis _ | fscRdcnt | fscRdstat | bseScale
  | bseFlush | bseWait | bsePalbuild | bsePalflush | bsePalwait | kdbPoll | sysCheck | sysTelem | sysInitfail =>
    exact faultFree_withFg (faultFree_next _)
  | bseStart | bsePalload => exact faultFree_withFg (faultFree_ite (faultFree_refused _) (faultFree_next _))
  | sysFatal _ =>
    exact faultFree_ite (faultFree_refused _) (faultFree_ite (faultFree_next _) (faultFree_refused _))

/-! ## Interrupt handlers and the wait that follows them (R9) -/

/-- The body of an interrupt handler: it neither reads nor writes the registers that the end of a wait writes, leaves
the latch, and brings no wait to a fatal error. -/
structure IsHandler (f : State → State) : Prop where
  besideWait : ∀ (s : State) (bse pal : Bool) (hold : FgHold) (rsp : Word32),
    f { s with bseBusy := bse, palBusy := pal, fgHold := hold, rsp := rsp }
      = { f s with bseBusy := bse, palBusy := pal, fgHold := hold, rsp := rsp }
  alreadyFailed : ∀ s, (f s).alreadyFailed = s.alreadyFailed
  fatal_of_fatal : ∀ {s h c}, (f s).waitOutcome h = .fatal c → s.waitOutcome h = .fatal c

/-- The held wait raises no fatal error, save one that the latch makes a no-op. -/
def State.NoFatalDue (s : State) : Prop := ∀ c, s.waitOutcome s.fgHold = .fatal c → s.alreadyFailed = true

/-- The handler does not change the outcome of the wait. -/
def KeepsOutcome (f : State → State) (h : FgHold) : Prop := ∀ s, (f s).waitOutcome h = s.waitOutcome h

/-- The operation is a handler's body and the evaluation of a held wait (R9). -/
def State.Runs (s : State) (i : Instr) (f : State → State) : Prop := exec i s = .next (f s).reevaluate

theorem State.fatalEntry_alreadyFailed (s : State) (c : Byte) : (s.fatalEntry c).alreadyFailed = true := by
  cases h : s.alreadyFailed with
  | true => rw [State.fatalEntry_latched c h]; exact h
  | false =>
    obtain ⟨latched, -⟩ := State.fatalEntry_first c h
    exact latched

/-- R9: a state with no settled wait has no fatal error due. -/
theorem State.noFatalDue_of_reevaluate {s : State} (h : s.reevaluate = s) : s.NoFatalDue := by
  intro c ho
  rw [State.reevaluate, State.evalWait, ho] at h
  rw [← h, State.fatalEntry_alreadyFailed]

namespace IsHandler

variable {f : State → State} {s : State}

/-- The busy bits and FG's hold stay. -/
theorem kept (hf : IsHandler f) (s : State) :
    (f s).bseBusy = s.bseBusy ∧ (f s).palBusy = s.palBusy ∧ (f s).fgHold = s.fgHold := by
  have hown : f s = { f s with bseBusy := s.bseBusy, palBusy := s.palBusy, fgHold := s.fgHold, rsp := s.rsp } :=
    hf.besideWait s s.bseBusy s.palBusy s.fgHold s.rsp
  exact ⟨by rw [hown], by rw [hown], by rw [hown]⟩

theorem fgHold (hf : IsHandler f) (s : State) : (f s).fgHold = s.fgHold := by
  obtain ⟨-, -, hhold⟩ := hf.kept s
  exact hhold

theorem answered (hf : IsHandler f) (s : State) : f { s with rsp := 0 } = { f s with rsp := 0 } := by
  obtain ⟨hbse, hpal, hhold⟩ := hf.kept s
  refine (hf.besideWait s s.bseBusy s.palBusy s.fgHold 0).trans ?_
  rw [← hbse, ← hpal, ← hhold]

theorem completed (hf : IsHandler f) (s : State) (h : FgHold) : f (s.waitCompleted h) = (f s).waitCompleted h := by
  obtain ⟨hbse, hpal, -⟩ := hf.kept s
  cases h with
  | none => rfl
  | fscWait => exact (hf.besideWait s s.bseBusy s.palBusy .none 0).trans (by rw [← hbse, ← hpal]; rfl)
  | bseWait => exact (hf.besideWait s false s.palBusy .none 0).trans (by rw [← hpal]; rfl)
  | palWait => exact (hf.besideWait s s.bseBusy false .none 0).trans (by rw [← hbse]; rfl)

theorem noFatalDue (hf : IsHandler f) (h : s.NoFatalDue) : (f s).NoFatalDue := by
  intro c ho
  rw [hf.fgHold] at ho
  rw [hf.alreadyFailed]
  exact h c (hf.fatal_of_fatal ho)

/-- A handler that leaves the outcome of the held wait acts as well after its evaluation as before. -/
theorem reevaluate (hf : IsHandler f) (hkeeps : KeepsOutcome f s.fgHold) (h : s.NoFatalDue) :
    (f s).reevaluate = f s.reevaluate := by
  rw [State.reevaluate, State.reevaluate, hf.fgHold, State.evalWait, State.evalWait, hkeeps s]
  cases ho : s.waitOutcome s.fgHold with
  | complete => exact (hf.completed s _).symm
  | fatal c =>
    have hlatched := h c ho
    simp only
    rw [State.fatalEntry_latched c hlatched, State.fatalEntry_latched c ((hf.alreadyFailed s).trans hlatched),
      hf.answered]
  | held =>
    simp only
    rw [State.fgHold_rewritten rfl, State.fgHold_rewritten (hf.fgHold s)]

end IsHandler

/-- No wait reads RSP. -/
theorem State.waitOutcome_answered (s : State) (r : Word32) (h : FgHold) :
    State.waitOutcome { s with rsp := r } h = s.waitOutcome h := by
  cases h <;> rfl

/-- A second evaluation of a wait finds nothing to do. -/
theorem State.reevaluate_reevaluate {s : State} (h : s.NoFatalDue) : s.reevaluate.reevaluate = s.reevaluate := by
  rcases s.evalWait_cases s.fgHold with ⟨-, e⟩ | ⟨c, ho, e⟩ | ⟨-, e⟩
  · exact State.reevaluate_none (by rw [State.reevaluate, e, s.waitCompleted_fgHold])
  · have hanswers : s.reevaluate = { s with rsp := 0 } := by
      rw [State.reevaluate, e, State.fatalEntry_latched c (h c ho)]
    rw [hanswers, State.reevaluate, State.evalWait, State.waitOutcome_answered, ho]
    exact State.fatalEntry_latched c (h c ho)
  · have hheld : s.reevaluate = s := by rw [State.reevaluate, e]
    rw [hheld, hheld]

/-- R236: two handlers whose bodies commute run in either order, if one of them leaves the outcome of the held wait. -/
theorem execAll_handlers_comm {i j : Instr} {f g : State → State} {s : State} (hf : IsHandler f) (hg : IsHandler g)
    (hcomm : f (g s) = g (f s)) (hopen : s.reevaluate = s) (hkeeps : KeepsOutcome g s.fgHold)
    (hi : s.Runs i f) (hj : s.Runs j g) (hij : (f s).reevaluate.Runs j g) (hji : (g s).reevaluate.Runs i f) :
    execAll [i, j] s = execAll [j, i] s := by
  have hdue := State.noFatalDue_of_reevaluate hopen
  have hafter : KeepsOutcome g (f s).fgHold := by rwa [hf.fgHold]
  have hdueAfter := hf.noFatalDue hdue
  calc execAll [i, j] s = .next (g (f s).reevaluate).reevaluate := (execAll_cons hi _).trans (execAll_cons hij [])
    _ = .next (g (f s)).reevaluate := by
      rw [← hg.reevaluate hafter hdueAfter, State.reevaluate_reevaluate (hg.noFatalDue hdueAfter)]
    _ = .next (f (g s).reevaluate).reevaluate := by rw [hg.reevaluate hkeeps hdue, hopen, hcomm]
    _ = execAll [j, i] s := ((execAll_cons hj _).trans (execAll_cons hji [])).symm

/-! ## The handlers and what they write (R114, R145, R154, R183) -/

/-- R181: what a received byte writes. -/
theorem State.pushByte_writes (s : State) (b : Byte) :
    s.pushByte b = { s with
      ringBuf := if s.ringCount < s.board.ringCap then
          s.ringBuf.set ((s.ringHead + s.ringCount) % s.board.ringCap) b else s.ringBuf
      ringCount := if s.ringCount < s.board.ringCap then s.ringCount + 1 else s.ringCount } := by
  unfold State.pushByte
  split <;> rfl

/-- R145: what the end of a transfer writes. -/
theorem State.transferred_writes (s : State) :
    s.transferred = { s with
      fb0 := if s.bseDst = 0 then Memory.fill s.board.fbSize s.transferPixel (s.fb s.bseDst) else s.fb0
      fb1 := if s.bseDst = 0 then s.fb1 else Memory.fill s.board.fbSize s.transferPixel (s.fb s.bseDst)
      bseDone := true
      draws := s.draws + 1 } := by
  unfold State.transferred State.setFb
  split <;> rfl

/-- R114, D7: a scan event, which is lost where the refresh interrupt is disabled or unarmed. -/
def State.refreshed (s : State) : State := if s.RefreshEnabled then s.refreshBody else s

/-- R114: what a scan event writes. -/
theorem State.refreshed_writes (s : State) :
    s.refreshed = { s with
      lcdAddr := if s.RefreshEnabled ∧ s.frameReady = true then s.board.fbAddr s.drawIndex else s.lcdAddr
      lcdOut := if s.RefreshEnabled ∧ s.frameReady = true then s.lcdOut ++ [.reload (s.board.fbAddr s.drawIndex)]
        else s.lcdOut
      visibleIndex := if s.RefreshEnabled ∧ s.frameReady = true then s.drawIndex else s.visibleIndex
      drawIndex := if (s.RefreshEnabled ∧ s.frameReady = true) ∧ s.doubleBufferEnabled = true then 1 - s.drawIndex
        else s.drawIndex
      frameReady := if s.RefreshEnabled then false else s.frameReady
      refreshCounter := if s.RefreshEnabled then bumpCounter s.board s.refreshCounter else s.refreshCounter } := by
  by_cases h : s.RefreshEnabled
  · rw [State.refreshed, if_pos h]
    cases hframe : s.frameReady with
    | true => simp only [State.refreshBody_pending h hframe, eq_true h, true_and, if_true]
    | false =>
      simp only [State.refreshBody_idle h hframe, eq_true h, hframe, Bool.false_eq_true, and_false, false_and, if_false,
        if_true]
  · simp only [State.refreshed, eq_false h, false_and, if_false]

/-- R154: what the end of a load writes. -/
theorem State.clutLoaded_writes (s : State) :
    s.clutLoaded = { s with
      clutHw := Vector.ofFn fun i => s.loadedEntry i.val, clutValid := true, palDone := true, draws := s.draws + 1 } :=
  rfl

theorem exec_fscRefresh (s : State) : exec .fscRefresh s = .next s.refreshed.reevaluate := rfl

/-! ### Which wait a handler may settle (R113, R146, R156) -/

theorem keepsOutcome_pushByte (b : Byte) (h : FgHold) : KeepsOutcome (State.pushByte · b) h := by
  intro s
  simp only [State.pushByte_writes]
  cases h <;> rfl

theorem keepsOutcome_refreshed {h : FgHold} (hne : h ≠ .fscWait) : KeepsOutcome State.refreshed h := by
  intro s
  rw [State.refreshed_writes]
  cases h with
  | fscWait => exact absurd rfl hne
  | none | bseWait | palWait => rfl

theorem keepsOutcome_transferred {h : FgHold} (hne : h ≠ .bseWait) : KeepsOutcome State.transferred h := by
  intro s
  rw [State.transferred_writes]
  cases h with
  | bseWait => exact absurd rfl hne
  | none | fscWait | palWait => rfl

theorem keepsOutcome_clutLoaded {h : FgHold} (hne : h ≠ .palWait) : KeepsOutcome State.clutLoaded h := by
  intro s
  rw [State.clutLoaded_writes]
  cases h with
  | palWait => exact absurd rfl hne
  | none | fscWait | bseWait => simp only [State.waitOutcome]

theorem isHandler_pushByte (b : Byte) : IsHandler (State.pushByte · b) where
  besideWait s bse pal hold rsp := by rw [State.pushByte_writes, State.pushByte_writes]
  alreadyFailed s := by rw [State.pushByte_writes]
  fatal_of_fatal {s h c} ho := by rwa [keepsOutcome_pushByte b h s] at ho

theorem isHandler_refreshed : IsHandler State.refreshed where
  besideWait s bse pal hold rsp := by rw [State.refreshed_writes, State.refreshed_writes]
  alreadyFailed s := by rw [State.refreshed_writes]
  fatal_of_fatal {s h c} ho := by
    by_cases hwait : h = .fscWait
    · rw [hwait, State.waitOutcome_fscWait] at ho
      split_ifs at ho
    · rwa [keepsOutcome_refreshed hwait s] at ho

theorem isHandler_transferred : IsHandler State.transferred where
  besideWait s bse pal hold rsp := by
    rw [State.transferred_writes, State.transferred_writes]
    rfl
  alreadyFailed s := by rw [State.transferred_writes]
  fatal_of_fatal {s h c} ho := by
    by_cases hwait : h = .bseWait
    · rw [hwait, State.waitOutcome_bseWait, if_pos (.inr (by rw [State.transferred_writes]))] at ho
      cases ho
    · rwa [keepsOutcome_transferred hwait s] at ho

theorem isHandler_clutLoaded : IsHandler State.clutLoaded where
  besideWait s bse pal hold rsp := by
    rw [State.clutLoaded_writes, State.clutLoaded_writes]
    rfl
  alreadyFailed s := by rw [State.clutLoaded_writes]
  fatal_of_fatal {s h c} ho := by
    by_cases hwait : h = .palWait
    · rw [hwait, State.waitOutcome_palWait, if_pos (.inr (by rw [State.clutLoaded_writes]))] at ho
      cases ho
    · rwa [keepsOutcome_clutLoaded hwait s] at ho

/-! ### A unit operation in flight stays so (R145, R154) -/

/-- R146, R156: only a wait that completes clears the busy bit of its unit. -/
theorem State.reevaluate_busy (s : State) :
    (s.reevaluate.bseBusy = s.bseBusy ∨ s.waitOutcome .bseWait = .complete)
      ∧ (s.reevaluate.palBusy = s.palBusy ∨ s.waitOutcome .palWait = .complete) := by
  rw [State.reevaluate]
  rcases s.evalWait_cases s.fgHold with ⟨ho, e⟩ | ⟨c, -, e⟩ | ⟨-, e⟩ <;> rw [e]
  · cases h : s.fgHold with
    | none | fscWait => exact ⟨.inl rfl, .inl rfl⟩
    | bseWait => exact ⟨.inr (h ▸ ho), .inl rfl⟩
    | palWait => exact ⟨.inl rfl, .inr (h ▸ ho)⟩
  · simp
  · exact ⟨.inl rfl, .inl rfl⟩

theorem State.TransferInFlight.reevaluate {s : State} (h : s.TransferInFlight) : s.reevaluate.TransferInFlight := by
  obtain ⟨hbusy, hdone⟩ := h
  have hopen : s.waitOutcome .bseWait ≠ .complete := by
    rw [State.waitOutcome_bseWait, if_neg (by simp [hbusy, hdone])]
    split_ifs <;> nofun
  exact ⟨(s.reevaluate_busy.1.resolve_right hopen).trans hbusy, by simp [hdone]⟩

theorem State.LoadPending.reevaluate {s : State} (h : s.LoadPending) : s.reevaluate.LoadPending := by
  obtain ⟨hbusy, hdone, herr⟩ := h
  have hopen : s.waitOutcome .palWait ≠ .complete := by
    rw [State.waitOutcome_palWait, if_neg (by simp [hbusy, hdone])]
    split_ifs <;> nofun
  exact ⟨(s.reevaluate_busy.2.resolve_right hopen).trans hbusy, by simp [hdone], by simp [herr]⟩

/-! ### In either order (R233, R236) -/

/-- A received byte settles no wait, so it may come before or after any other handler. -/
theorem execAll_kdbRx_comm {i : Instr} {f : State → State} {s : State} (b : Byte) (hf : IsHandler f)
    (hcomm : f (s.pushByte b) = (f s).pushByte b) (hopen : s.reevaluate = s) (hi : s.Runs i f)
    (hi' : (s.pushByte b).reevaluate.Runs i f) : execAll [i, .kdbRx b] s = execAll [.kdbRx b, i] s :=
  execAll_handlers_comm hf (isHandler_pushByte b) hcomm hopen (keepsOutcome_pushByte b _) hi (exec_kdbRx b _)
    (exec_kdbRx b _) hi'

/-- A scan event settles FSC.WAIT alone, so it may come before or after a handler that does not. -/
theorem execAll_fscRefresh_comm {j : Instr} {g : State → State} {s : State} (hg : IsHandler g)
    (hkeeps : KeepsOutcome g .fscWait) (hcomm : g s.refreshed = (g s).refreshed) (hopen : s.reevaluate = s)
    (hj : s.Runs j g) (hj' : s.refreshed.reevaluate.Runs j g) :
    execAll [.fscRefresh, j] s = execAll [j, .fscRefresh] s := by
  by_cases hwait : s.fgHold = .fscWait
  · exact execAll_handlers_comm isHandler_refreshed hg hcomm.symm hopen (hwait ▸ hkeeps) (exec_fscRefresh _) hj hj'
      (exec_fscRefresh _)
  · exact (execAll_handlers_comm hg isHandler_refreshed hcomm hopen (keepsOutcome_refreshed hwait) hj
      (exec_fscRefresh _) (exec_fscRefresh _) hj').symm

theorem State.pushByte_refreshed (s : State) (b : Byte) : (s.pushByte b).refreshed = s.refreshed.pushByte b := by
  rw [State.refreshed_writes, State.refreshed_writes, State.pushByte_writes, State.pushByte_writes]

theorem State.pushByte_transferred (s : State) (b : Byte) : (s.pushByte b).transferred = s.transferred.pushByte b := by
  rw [State.transferred_writes, State.transferred_writes, State.pushByte_writes, State.pushByte_writes]
  rfl

theorem State.pushByte_clutLoaded (s : State) (b : Byte) : (s.pushByte b).clutLoaded = s.clutLoaded.pushByte b := by
  rw [State.clutLoaded_writes, State.clutLoaded_writes, State.pushByte_writes, State.pushByte_writes]
  rfl

theorem State.refreshed_transferred (s : State) : s.refreshed.transferred = s.transferred.refreshed := by
  rw [State.transferred_writes, State.transferred_writes, State.refreshed_writes, State.refreshed_writes]
  rfl

theorem State.refreshed_clutLoaded (s : State) : s.refreshed.clutLoaded = s.clutLoaded.refreshed := by
  rw [State.clutLoaded_writes, State.clutLoaded_writes, State.refreshed_writes, State.refreshed_writes]
  rfl

end Sys2Proof.Machine

end

/-! The obligations of the family. -/

section

open Sys2Proof Sys2Proof.Machine

/-- Settles O52: no two handlers write a common register, and of each two one leaves the outcome of the held wait. -/
theorem interruptHandlersCommute : Obligations.InterruptHandlersCommute := by
  intro s b hopen
  refine ⟨?_, fun hflight => ⟨?_, ?_⟩, fun hpending => ⟨?_, ?_⟩⟩
  · exact execAll_kdbRx_comm b isHandler_refreshed (s.pushByte_refreshed b) hopen (exec_fscRefresh _)
      (exec_fscRefresh _)
  · exact execAll_kdbRx_comm b isHandler_transferred (s.pushByte_transferred b) hopen (exec_bseDone_inFlight hflight)
      (exec_bseDone_inFlight (State.TransferInFlight.reevaluate (by rwa [State.pushByte_writes])))
  · exact execAll_fscRefresh_comm isHandler_transferred (keepsOutcome_transferred nofun) s.refreshed_transferred hopen
      (exec_bseDone_inFlight hflight)
      (exec_bseDone_inFlight (State.TransferInFlight.reevaluate (by rwa [State.refreshed_writes])))
  · exact execAll_kdbRx_comm b isHandler_clutLoaded (s.pushByte_clutLoaded b) hopen (exec_bsePaldone_pending hpending)
      (exec_bsePaldone_pending (State.LoadPending.reevaluate (by rwa [State.pushByte_writes])))
  · exact execAll_fscRefresh_comm isHandler_clutLoaded (keepsOutcome_clutLoaded nofun) s.refreshed_clutLoaded hopen
      (exec_bsePaldone_pending hpending)
      (exec_bsePaldone_pending (State.LoadPending.reevaluate (by rwa [State.refreshed_writes])))

/-- Settles O50: a fault is raised by the stores of the renderer alone, which are no operations. -/
theorem noOperationFaults : Obligations.NoOperationFaults := exec_faultFree

end

/-! PROOFS of the family 70_reset_and_hazards: the invariants after reset (R271), who writes the shared registers
(R280). -/

section

namespace Sys2Proof.Machine

/-! ## The registers with a writer of their own -/

/-- The registers whose writers R22, R23, R25, R38, R40, R42 and R46 name, and `double_buffer_enabled` (R24). -/
structure Registers where
  drawIndex : FbIndex
  frameReady : Bool
  doubleBufferEnabled : Bool
  refreshCounter : Nat
  keytab : Vector KeyEntry 256
  engineProgressCounter : Nat
  resetPending : Bool
  now : Word32

/-- Those registers of a state. -/
def State.registers (s : State) : Registers where
  drawIndex := s.drawIndex
  frameReady := s.frameReady
  doubleBufferEnabled := s.doubleBufferEnabled
  refreshCounter := s.refreshCounter
  keytab := s.keytab
  engineProgressCounter := s.engineProgressCounter
  resetPending := s.resetPending
  now := s.now

/-- Operation `i`, on its way from `r` to `r'`, has changed only what is its own to write (R22, R23, R25, R38, R40, R42,
R46, R280). -/
structure Registers.WrittenBy (i : Instr) (r r' : Registers) : Prop where
  frameReadySet : r.frameReady = false → r'.frameReady = true → i = .fscSubmit
  frameReadyCleared : r.frameReady = true → r'.frameReady = false → i = .fscRefresh
  drawIndex : r'.drawIndex ≠ r.drawIndex → i = .fscRefresh ∧ r.doubleBufferEnabled = true ∧ r.frameReady = true
  refreshCounter : r'.refreshCounter ≠ r.refreshCounter → i = .fscRefresh
  doubleBufferEnabled : r'.doubleBufferEnabled ≠ r.doubleBufferEnabled → ∃ m, i = .fscSetmode m
  keytab : r'.keytab ≠ r.keytab → i = .kdbPoll
  now : r'.now ≠ r.now → ∃ n, i = .envClk n
  engineProgressCounter : r'.engineProgressCounter ≠ r.engineProgressCounter → i = .envEtick
  resetPending : r'.resetPending ≠ r.resetPending → i = .sysCheck ∧ r'.resetPending = true

theorem Registers.WrittenBy.refl (i : Instr) (r : Registers) : r.WrittenBy i r where
  frameReadySet := fun hclear hset => nomatch hclear.symm.trans hset
  frameReadyCleared := fun hset hclear => nomatch hclear.symm.trans hset
  drawIndex := absurd rfl
  refreshCounter := absurd rfl
  doubleBufferEnabled := absurd rfl
  keytab := absurd rfl
  now := absurd rfl
  engineProgressCounter := absurd rfl
  resetPending := absurd rfl

/-! ### Shared operations that write none of them -/

@[simp] theorem State.registers_setFb (s : State) (k : FbIndex) (m : Memory Pixel) :
    (s.setFb k m).registers = s.registers := by simp [State.registers]

@[simp] theorem State.registers_setXsrcMem (s : State) (m : Memory Byte) :
    (s.setXsrcMem m).registers = s.registers := by simp [State.registers]

@[simp] theorem State.registers_storedSrc (s : State) : s.storedSrc.registers = s.registers := by
  simp [State.registers]

@[simp] theorem State.registers_respond (s : State) (v : Nat) : (s.respond v).registers = s.registers := by
  simp [State.registers]

@[simp] theorem State.registers_pushByte (s : State) (b : Byte) : (s.pushByte b).registers = s.registers := by
  simp [State.registers]

@[simp] theorem State.registers_drain (n : Nat) (s : State) : (State.drain n s).2.registers = s.registers := by
  simp [State.registers]

/-- R204: the fatal entry leaves them all. -/
@[simp] theorem State.registers_fatalEntry (s : State) (c : Byte) : (s.fatalEntry c).registers = s.registers := by
  simp [State.registers]

@[simp] theorem State.registers_evalWait (s : State) (h : FgHold) : (s.evalWait h).registers = s.registers := by
  simp [State.registers]

/-- R9: so does the evaluation of a held wait. -/
@[simp] theorem State.registers_reevaluate (s : State) : s.reevaluate.registers = s.registers :=
  s.registers_evalWait s.fgHold

@[simp] theorem State.registers_checkRefresh (s : State) : s.checkRefresh.registers = s.registers := by
  unfold State.checkRefresh
  split_ifs
  · rfl
  · exact s.registers_fatalEntry 3
  · rfl

/-! ### What each writer writes -/

namespace Registers.WrittenBy

variable {i : Instr} {r r' : Registers}

theorem of_eq (h : r' = r := by simp) : r.WrittenBy i r' := h ▸ refl i r

theorem reevaluate {t : State} (h : r.WrittenBy i t.registers) : r.WrittenBy i t.reevaluate.registers := by
  rwa [State.registers_reevaluate]

/-- R112 -/
theorem submitted (r : Registers) : r.WrittenBy .fscSubmit { r with frameReady := true } :=
  { refl _ r with frameReadySet := fun _ _ => rfl, frameReadyCleared := fun _ => nofun }

/-- R114: the handler flips the draw buffer on a pending frame, under double buffering. -/
theorem refreshed (s : State) : s.registers.WrittenBy .fscRefresh s.refreshed.registers := by
  rw [State.refreshed_writes]
  exact
    { refl _ s.registers with
      frameReadySet := fun hclear hset => by simp_all [State.registers]
      frameReadyCleared := fun _ _ => rfl
      drawIndex := fun hne => by
        obtain ⟨⟨⟨-, hframe⟩, hdouble⟩, -⟩ := ite_ne_right_iff.mp hne
        exact ⟨rfl, hdouble, hframe⟩
      refreshCounter := fun _ => rfl }

/-- R201: the renderer check sets `reset_pending`, or leaves it. -/
theorem checkProgress (s : State) : s.registers.WrittenBy .sysCheck s.checkProgress.registers := by
  unfold State.checkProgress
  split_ifs
  · exact of_eq rfl
  · exact { refl _ s.registers with resetPending := fun _ => ⟨rfl, rfl⟩ }
  · exact of_eq rfl

/-- R184: a poll writes KEYTAB alone. -/
theorem setKey {s t : State} (h : t.registers = s.registers) (k : Byte) (e : KeyEntry) :
    s.registers.WrittenBy .kdbPoll (t.setKey k e).registers := by
  rw [← h]
  exact { refl _ t.registers with keytab := fun _ => rfl }

/-- Phase 2 of KDB.POLL (R184). -/
theorem expireKey {s t : State} (h : t.registers = s.registers) :
    s.registers.WrittenBy .kdbPoll t.expireKey.registers := by
  unfold State.expireKey
  split
  · exact setKey h _ _
  · exact of_eq h

end Registers.WrittenBy

/-- Every operation but ENV.RESET writes only the registers that are its own. -/
theorem exec_ensures_registersWrittenBy {i : Instr} (hi : i ≠ .envReset) (s : State) :
    Ensures (exec i s) fun t => s.registers.WrittenBy i t.registers := by
  have hrefl := Registers.WrittenBy.refl i s.registers
  cases i with
  | envReset => exact absurd rfl hi
  | envClk n => exact ensures_thenReevaluate.mpr (.reevaluate { hrefl with now := fun _ => ⟨n, rfl⟩ })
  | envEtick =>
    exact ensures_withRenderer (ensures_thenReevaluate.mpr
      (.reevaluate { hrefl with engineProgressCounter := fun _ => rfl }))
  | envSrcfill v =>
    exact ensures_withRenderer (ensures_thenReevaluate.mpr (.reevaluate (.of_eq (State.registers_storedSrc _))))
  | fscRefresh => exact ensures_thenReevaluate.mpr (.reevaluate (.refreshed s))
  | fscSubmit => exact ensures_withFg (ensures_next.mpr (.submitted s.registers))
  | fscSetmode m => exact ensures_withFg (ensures_next.mpr { hrefl with doubleBufferEnabled := fun _ => ⟨m, rfl⟩ })
  | kdbPoll =>
    refine ensures_withFg (ensures_next.mpr ?_)
    have hdrain := State.registers_drain s.ringCount s
    split
    · rename_i h
      rw [h] at hdrain
      exact .setKey hdrain _ _
    · rename_i h
      rw [h] at hdrain
      exact .expireKey hdrain
  | sysCheck =>
    refine ensures_withFg (ensures_next.mpr ?_)
    rw [State.registers_checkRefresh]
    exact .checkProgress s
  | kdbRx b => exact ensures_thenReevaluate.mpr .of_eq
  | bseDone =>
    exact ensures_ite
      (ensures_thenReevaluate.mpr (.reevaluate (.of_eq (State.registers_setFb s _ _)))) ensures_refused
  | bsePaldone | bsePalerr =>
    exact ensures_ite
      (ensures_thenReevaluate.mpr (.reevaluate (.of_eq (by simp [State.registers])))) ensures_refused
  | fscBegin | fscRdcnt | fscWait | bseWait | bsePalwait => exact ensures_withFg (ensures_next.mpr .of_eq)
  | fscIrqctl _ | fscForcevis _ | fscRdstat | bsePalbuild | bsePalflush | sysTelem | sysInitfail =>
    exact ensures_withFg (ensures_next.mpr (.of_eq rfl))
  | bseStart | bsePalload => exact ensures_withFg (ensures_ite ensures_refused (ensures_next.mpr (.of_eq rfl)))
  | bseScale =>
    refine ensures_withFg (ensures_next.mpr ?_)
    split <;> exact .of_eq rfl
  | bseFlush => exact ensures_withFg (ensures_next.mpr (.of_eq (State.registers_setXsrcMem s _)))
  | sysFatal c => exact ensures_ite ensures_refused (ensures_ite (ensures_next.mpr .of_eq) ensures_refused)
  | sysFloop => exact ensures_ite (ensures_next.mpr (.of_eq rfl)) ensures_refused

end Sys2Proof.Machine

end

/-! The obligations of the family. -/

section

open Sys2Proof Sys2Proof.Machine

/-- Settles O47: each operation writes its own registers, and neither the fatal entry nor the evaluation of a held wait
writes any of them. -/
theorem registersHaveTheirWriters : Obligations.RegistersHaveTheirWriters := by
  intro i s t hi h
  obtain ⟨hset, hcleared, hdraw, hcounter, hdouble, hkeytab, hnow, hprogress, hpending⟩ :=
    exec_ensures_registersWrittenBy hi s t h
  exact ⟨hset, hcleared, hdraw, hcounter, hdouble, hkeytab, hnow, hprogress, hpending⟩

/-- Settles O53: the reset state of every admitted board meets the invariant, and T1 is one of them. -/
theorem resetMeetsInvariant : Obligations.ResetMeetsInvariant :=
  ⟨fun _ tr d => State.resetWith_inv tr d, State.resetWith_inv [] 0 (by decide)⟩

end
